-- ==== Sys2Proof/Word.lean ====
section
/-! DEFINITION. The two word types of the machine: the byte the bus moves and the 16-bit address or pair (R12, R109). -/

namespace Sys2Proof

/-- An 8-bit value: a register, a memory byte, an instruction byte (R12). -/
abbrev Byte := BitVec 8

/-- A 16-bit value: a register pair, an index register, `SP`, `PC`, an address, a port number (R12). -/
abbrev Word := BitVec 16

end Sys2Proof
end

