-- ==== Sys2Proof/Config.lean ====
section
/-! DEFINITION. What an implementation fixes (the parameters of R8, at the values the spec takes) and the free values
of the model (constants without a body, so that nothing can be proved of their value). -/

namespace Sys2Proof

/-- `INT_MODE_POLICY` (R514): how an accepted interrupt picks its target. -/
inductive IntModePolicy where
  /-- the target follows `IM` as R511 to R513 say: the value of the spec -/
  | perIM
  /-- R511 applies whatever `IM` is, the cost is 13 -/
  | alwaysMode0
  deriving DecidableEq, Repr

/-- `CLOCK_HZ` (R8): CPU cycles per second at speed 1. -/
def Config.clockHz : Nat := 3072000

/-- `FPS` (R8): frame boundaries per second. -/
def Config.fps : Nat := 60

/-- `CYCLES_PER_FRAME`, F (R8): `CLOCK_HZ / FPS`. -/
def Config.cyclesPerFrame : Nat := 51200

/-- `SAMPLE_RATE` (R8): `render_sample` calls per second of real time; host-configured in the source, the nominal
value here. DESIGN CHOICE (log 10). -/
def Config.sampleRate : Nat := 44100

/-- `INT_MODE_POLICY` (R8, R514): the value of the spec. DESIGN CHOICE (log 12). -/
def Config.intModePolicy : IntModePolicy := .perIM

/-- `INT_ACK_CYCLES` (R8, R510) in interrupt modes 0 and 1. -/
def Config.intAckShort : Nat := 13

/-- `INT_ACK_CYCLES` (R8, R513) in interrupt mode 2. -/
def Config.intAckMode2 : Nat := 19

/-- `UNMAPPED_READ` (R8, R106). DESIGN CHOICE (log 11). -/
def Config.unmappedRead : Byte := 0xFF

/-- `DIP_SWITCHES` (R8, R101). -/
def Config.dipSwitches : Byte := 0xC9

/-- `CABINET_BIT` (R8, R99). -/
def Config.cabinetBit : Bool := true

/-- `AUDIO_GAIN` (R8, R610). -/
def Config.audioGain : Int := 50

/-- `N_SPRITES` (R8, R580): the hardware sprite limit. -/
def Config.nSprites : Nat := 8

/-- `TRANSPARENT_INDEX` (R8, R580). -/
def Config.transparentIndex : Nat := 0

/-- `IO_IN(port)` (R8, R120): the byte the `draw`-th free value of a run is, when an `IN` instruction reads `port`.
The spec leaves it OPEN, "chosen anew at each read". Free value (log 13). -/
opaque Config.ioIn : (draw : Nat) → (port : Word) → Byte

/-- `YF` after `BIT b,(HL)` (R401): "each a draw". Free value (log 14). -/
opaque Config.drawYF : (draw : Nat) → Bool

/-- `XF` after `BIT b,(HL)` (R401): "each a draw". Free value (log 14). -/
opaque Config.drawXF : (draw : Nat) → Bool

/-- `CHEAT_ADDR - 0x4000` (R8, R125): which RAM byte the debug hook writes; R125 bounds `CHEAT_ADDR` to
0x4000..0x4FFF, so the offset has 12 bits. OPEN in the spec (log 15). -/
opaque Config.cheatOffset : BitVec 12

/-- `CHEAT_VALUE` (R8, R125): the sentinel the debug hook writes. OPEN in the spec (log 15). -/
opaque Config.cheatValue : Byte

end Sys2Proof
end

