-- ==== Sys2Proof/Machine/Bits.lean ====
section
/-! DEFINITION. Bit fields, byte order and sign extension (R12, R13, R107, R142). -/

namespace Sys2Proof

/-- `hi(v)`: `v[15:8]` (R12). -/
def hi (v : Word) : Byte := v.extractLsb' 8 8

/-- `lo(v)`: `v[7:0]` (R12). -/
def lo (v : Word) : Byte := v.extractLsb' 0 8

/-- `h ++ l` (R12): `h` in the high bits. -/
def joinBytes (h l : Byte) : Word := h ++ l

/-- `sext_8(v)` (R13), as the 16-bit two's complement number that is added modulo 65536. -/
def sext8 (v : Byte) : Word := v.signExtend 16

/-- `v[i]` for a byte (R12). -/
def bitOf (v : Byte) (i : Nat) : Bool := v.getLsbD i

/-- `parity(v)` (R13): true when the byte has an even number of 1 bits. -/
def parity (v : Byte) : Bool :=
  !(bitOf v 0 ^^ bitOf v 1 ^^ bitOf v 2 ^^ bitOf v 3 ^^ bitOf v 4 ^^ bitOf v 5 ^^ bitOf v 6 ^^ bitOf v 7)

/-- The opcode field `x = op[7:6]` (R142). -/
def fieldX (op : Byte) : Nat := op.toNat / 64

/-- The opcode field `y = op[5:3]` (R142). -/
def fieldY (op : Byte) : Nat := op.toNat / 8 % 8

/-- The opcode field `z = op[2:0]` (R142). -/
def fieldZ (op : Byte) : Nat := op.toNat % 8

/-- The opcode field `p = op[5:4]`, the high two bits of `y` (R142). -/
def fieldP (op : Byte) : Nat := op.toNat / 16 % 4

/-- The opcode field `q = op[3]`, the low bit of `y` (R142). -/
def fieldQ (op : Byte) : Nat := op.toNat / 8 % 2

/-- An opcode byte put together from its fields `x`, `y`, `z` (R142). -/
def opXYZ (x y z : Nat) : Byte := BitVec.ofNat 8 (64 * x + 8 * y + z)

end Sys2Proof
end

