-- ==== Sys2Proof/Machine/State.lean ====
section
/-! DEFINITION. The state of the machine (R20 to R50), sparse memories in one canonical form, the reasons a step can
stop, and the state after power-on reset (R60 to R62). Plain data throughout. -/

namespace Sys2Proof.Machine

/-- A sparse byte memory: pairs of an offset and a byte, offsets strictly rising, no byte equal to what an unlisted
offset reads as. -/
abbrev Memory := List Host.Cell

/-- What a byte that nothing has written reads as: the spec gives RAM and ROM contents no value (R62, R9).
DESIGN CHOICE, unsafe (log 2). -/
def Memory.blank : Byte := 0x00

/-- The canonical form: offsets strictly rising and no listed byte equal to `blank`. -/
abbrev Memory.wf (m : Memory) : Prop :=
  List.Pairwise (fun c d : Host.Cell => c.1 < d.1) m ∧ ∀ c ∈ m, c.2 ≠ Memory.blank

/-- The canonical form with every offset below `n`: the memory of a device of `n` bytes. -/
abbrev Memory.wfBelow (n : Nat) (m : Memory) : Prop := m.wf ∧ ∀ c ∈ m, c.1 < n

/-- Interrupt mode (R30). -/
inductive IntMode where
  | im0 | im1 | im2
  deriving DecidableEq, Repr

/-- The speed multiplier (R50, R526): "No other value is legal". -/
inductive Speed where
  | x1 | x2
  deriving DecidableEq, Repr

/-- The opcode table that the bytes at `PC` are read in: `main` except just after a bare prefix row was executed by
itself (R141, R143). The model's own field (log 8). -/
inductive Table where
  | main | cb | ed | dd | fd | ddcb | fdcb
  deriving DecidableEq, Repr

/-- The CPU (R20 to R32). A field ending in 2 is the shadow register of that name (R22). -/
structure Cpu where
  /-- accumulator `A` (R21) -/
  a : Byte
  /-- flag register `F` (R26) -/
  f : Byte
  b : Byte
  c : Byte
  d : Byte
  e : Byte
  h : Byte
  l : Byte
  /-- `A'` (R22) -/
  a2 : Byte
  /-- `F'` (R22) -/
  f2 : Byte
  b2 : Byte
  c2 : Byte
  d2 : Byte
  e2 : Byte
  h2 : Byte
  l2 : Byte
  /-- index register `IX` (R23) -/
  ix : Word
  /-- index register `IY` (R23) -/
  iy : Word
  /-- stack pointer (R24) -/
  sp : Word
  /-- program counter (R25) -/
  pc : Word
  /-- interrupt page register `I` (R28) -/
  i : Byte
  /-- memory-refresh counter `R` (R28) -/
  r : Byte
  /-- `IFF1` (R29) -/
  iff1 : Bool
  /-- `IFF2` (R29) -/
  iff2 : Bool
  /-- interrupt mode (R30) -/
  im : IntMode
  /-- halt flag (R31) -/
  halted : Bool
  /-- the hidden `ei_delay` bit (R32) -/
  eiDelay : Bool
  deriving DecidableEq, Repr

/-- The eleven input latches (R44): true means pressed or active. -/
structure Inputs where
  up : Bool
  left : Bool
  right : Bool
  down : Bool
  rackAdvance : Bool
  coin1 : Bool
  coin2 : Bool
  credit : Bool
  boardTest : Bool
  start1 : Bool
  start2 : Bool
  deriving DecidableEq, Repr

/-- The bus state (R40 to R44). -/
structure Bus where
  /-- working RAM, offsets 0..4095 (R40) -/
  ram : Memory
  /-- sprite-position table, offsets 0..15 (R41) -/
  spritePos : Memory
  /-- control latch bit `int_enable` (R42) -/
  intEnable : Bool
  /-- control latch bit `sound_enable` (R42) -/
  soundEnable : Bool
  /-- control latch bit `flip_screen` (R42) -/
  flipScreen : Bool
  /-- interrupt vector byte (R43) -/
  intVector : Byte
  /-- input latches (R44) -/
  inputs : Inputs
  deriving DecidableEq, Repr

/-- One audio channel (R48, R601). -/
structure Channel where
  freq : BitVec 20
  wave : BitVec 3
  vol : BitVec 4
  acc : BitVec 20
  deriving DecidableEq, Repr

/-- The audio state (R48, R49) and the samples pushed so far, oldest first (R548). -/
structure Audio where
  ch0 : Channel
  ch1 : Channel
  ch2 : Channel
  mute : Bool
  /-- the stream of samples pushed to the host, an output trace (R548, log 16) -/
  pushed : List (BitVec 16)
  deriving DecidableEq, Repr

/-- The scheduler state (R50). -/
structure Sched where
  /-- `cycle_acc`, signed, in 1/1000 cycle (R524) -/
  cycleAcc : Int
  /-- `frame_cyc`, cycles since the last frame boundary (R520) -/
  frameCyc : Nat
  /-- `sample_acc`, in units of 1/120 sample (R523) -/
  sampleAcc : Nat
  /-- `speed` (R526) -/
  speed : Speed
  deriving DecidableEq, Repr

/-- A ROM image of `size` bytes, its length fixed by the type (R9, 93 U5): a memory in canonical form that lists no
offset of `size` or more. -/
structure Rom (size : Nat) where
  cells : Memory
  fits : cells.wfBelow size
  deriving DecidableEq, Repr

/-- The ROM images with the lengths of R9 (R560, R600), fixed at session creation (R540); no step writes them (R95;
log 5). -/
structure Roms where
  prog : Rom 16384
  tile : Rom 4096
  sprite : Rom 4096
  color : Rom 32
  palette : Rom 256
  wave1 : Rom 256
  wave2 : Rom 256
  deriving DecidableEq, Repr

/-- The whole machine. -/
structure State where
  /-- CPU state (R20) -/
  cpu : Cpu
  /-- bus state (R40 to R44) -/
  bus : Bus
  /-- ScreenBuffer, byte offsets 0..193535 (R46, R586) -/
  screen : Memory
  /-- audio state (R48, R49, R548) -/
  audio : Audio
  /-- scheduler state (R50) -/
  sched : Sched
  /-- the session's ROM images (R9) -/
  roms : Roms
  /-- how many free values have been drawn: the model's own counter (log 18) -/
  draws : Nat
  /-- the cycles the last step returned (R13, R320, R520; log 17) -/
  cycles : Nat
  /-- the opcode table the next bytes are read in: the model's own field (log 8) -/
  table : Table
  deriving DecidableEq, Repr

/-- Why a step faults. The hardware has no synchronous exception of any kind (R500, R502), so there is no reason:
nothing raises a fault. -/
inductive Fault where
  deriving DecidableEq, Repr

/-- Why a step is refused. -/
inductive Refusal where
  /-- The instruction has no meaning in the model yet. Raised by an arm of `exec` that is not modelled; safe.
  No arm raises it: every instruction of the table has its meaning. -/
  | notModelled (mnemonic : String)
  deriving DecidableEq, Repr

/-- What a meaning answers. -/
abbrev Result := Host.Outcome State Fault Refusal

/-- The CPU right after power-on: R60 and R61 give `PC`, `I`, `R`, `IFF1`, `IFF2`, `IM`, `halted`, `ei_delay`;
every other register is unspecified (R62) and 0 here. DESIGN CHOICE, unsafe (log 1). -/
def Cpu.reset : Cpu :=
  { a := 0, f := 0, b := 0, c := 0, d := 0, e := 0, h := 0, l := 0
    a2 := 0, f2 := 0, b2 := 0, c2 := 0, d2 := 0, e2 := 0, h2 := 0, l2 := 0
    ix := 0, iy := 0, sp := 0, pc := 0, i := 0, r := 0
    iff1 := false, iff2 := false, im := .im0, halted := false, eiDelay := false }

/-- All input latches 0: nothing pressed (R62). -/
def Inputs.released : Inputs :=
  { up := false, left := false, right := false, down := false, rackAdvance := false, coin1 := false
    coin2 := false, credit := false, boardTest := false, start1 := false, start2 := false }

/-- The bus right after power-on (R62). RAM and `int_vector` are unspecified there: DESIGN CHOICE, unsafe
(logs 2, 3). -/
def Bus.reset : Bus :=
  { ram := [], spritePos := [], intEnable := false, soundEnable := false, flipScreen := false
    intVector := 0, inputs := .released }

/-- A channel right after power-on: all 0 (R62). -/
def Channel.reset : Channel := { freq := 0, wave := 0, vol := 0, acc := 0 }

/-- The audio state right after power-on (R62); no sample has been pushed. -/
def Audio.reset : Audio :=
  { ch0 := .reset, ch1 := .reset, ch2 := .reset, mute := false, pushed := [] }

/-- The scheduler right after power-on (R62). -/
def Sched.reset : Sched := { cycleAcc := 0, frameCyc := 0, sampleAcc := 0, speed := .x1 }

/-- An image that lists no byte. -/
def Rom.blank (size : Nat) : Rom size := { cells := [], fits := ⟨⟨.nil, by simp⟩, by simp⟩ }

/-- No ROM image: nothing listed. The contents of the images are parameters that no source gives (R9; log 6). -/
def Roms.none : Roms :=
  { prog := .blank _, tile := .blank _, sprite := .blank _, color := .blank _, palette := .blank _
    wave1 := .blank _, wave2 := .blank _ }

/-- The machine right after power-on (R62), with no ROM image placed (log 6). -/
def State.reset : State :=
  { cpu := .reset, bus := .reset, screen := [], audio := .reset, sched := .reset, roms := .none
    draws := 0, cycles := 0, table := .main }

end Sys2Proof.Machine
end

