-- ==== Sys2Proof/Machine/Flags.lean ====
section
/-! DEFINITION. The flag register and every flag computation of the spec (R14 to R17, R26, R27, and the flag parts of
the instruction rules). -/

namespace Sys2Proof.Machine

/-- `F` from its eight bits, bit 7 first (R26). -/
def packF (sf zf yf hf xf pf nf cf : Bool) : Byte :=
  BitVec.ofBool sf ++ (BitVec.ofBool zf ++ (BitVec.ofBool yf ++ (BitVec.ofBool hf ++
    (BitVec.ofBool xf ++ (BitVec.ofBool pf ++ (BitVec.ofBool nf ++ BitVec.ofBool cf))))))

/-- `SF`, bit 7 of `F` (R26). -/
def Cpu.sf (c : Cpu) : Bool := bitOf c.f 7
/-- `ZF`, bit 6 of `F` (R26). -/
def Cpu.zf (c : Cpu) : Bool := bitOf c.f 6
/-- `YF`, bit 5 of `F` (R26). -/
def Cpu.yf (c : Cpu) : Bool := bitOf c.f 5
/-- `HF`, bit 4 of `F` (R26). -/
def Cpu.hf (c : Cpu) : Bool := bitOf c.f 4
/-- `XF`, bit 3 of `F` (R26). -/
def Cpu.xf (c : Cpu) : Bool := bitOf c.f 3
/-- `PF`, bit 2 of `F` (R26). -/
def Cpu.pf (c : Cpu) : Bool := bitOf c.f 2
/-- `NF`, bit 1 of `F` (R26). -/
def Cpu.nf (c : Cpu) : Bool := bitOf c.f 1
/-- `CF`, bit 0 of `F` (R26). -/
def Cpu.cf (c : Cpu) : Bool := bitOf c.f 0

/-- `F` with `SZYX(v)` (R14) and the other four bits as given. -/
def szyxF (v : Byte) (hf pf nf cf : Bool) : Byte :=
  packF (bitOf v 7) (decide (v = 0)) (bitOf v 5) hf (bitOf v 3) pf nf cf

/-- A result with its half-carry, carry and overflow (R15, R16). -/
structure Sum8 where
  r : Byte
  h : Bool
  cy : Bool
  v : Bool
  deriving DecidableEq, Repr

/-- A 16-bit result with its half-carry, carry and overflow (R17). -/
structure Sum16 where
  r : Word
  h : Bool
  cy : Bool
  v : Bool
  deriving DecidableEq, Repr

/-- `add8(a, b, c)` (R15). -/
def add8 (a b : Byte) (c : Bool) : Sum8 :=
  let sum := a.toNat + b.toNat + c.toNat
  let r : Byte := BitVec.ofNat 8 sum
  { r := r
    h := decide (a.toNat % 16 + b.toNat % 16 + c.toNat > 15)
    cy := decide (sum > 255)
    v := (bitOf a 7 == bitOf b 7) && (bitOf r 7 != bitOf a 7) }

/-- `sub8(a, b, c)` (R16). -/
def sub8 (a b : Byte) (c : Bool) : Sum8 :=
  let diff : Int := (a.toNat : Int) - (b.toNat : Int) - (c.toNat : Int)
  let r : Byte := BitVec.ofInt 8 diff
  { r := r
    h := decide (a.toNat % 16 < b.toNat % 16 + c.toNat)
    cy := decide (diff < 0)
    v := (bitOf a 7 != bitOf b 7) && (bitOf r 7 != bitOf a 7) }

/-- `add16(a, b, c)` (R17). -/
def add16 (a b : Word) (c : Bool) : Sum16 :=
  let sum := a.toNat + b.toNat + c.toNat
  let r : Word := BitVec.ofNat 16 sum
  { r := r
    h := decide (a.toNat % 4096 + b.toNat % 4096 + c.toNat > 4095)
    cy := decide (sum > 65535)
    v := (a.getLsbD 15 == b.getLsbD 15) && (r.getLsbD 15 != a.getLsbD 15) }

/-- `sub16(a, b, c)` (R17). -/
def sub16 (a b : Word) (c : Bool) : Sum16 :=
  let diff : Int := (a.toNat : Int) - (b.toNat : Int) - (c.toNat : Int)
  let r : Word := BitVec.ofInt 16 diff
  { r := r
    h := decide (a.toNat % 4096 < b.toNat % 4096 + c.toNat)
    cy := decide (diff < 0)
    v := (a.getLsbD 15 != b.getLsbD 15) && (r.getLsbD 15 != a.getLsbD 15) }

/-- Flags of an addition (R291). -/
def addFlags (x : Sum8) : Byte := szyxF x.r x.h x.v false x.cy

/-- Flags of a subtraction (R293). -/
def subFlags (x : Sum8) : Byte := szyxF x.r x.h x.v true x.cy

/-- Flags of `CP s` (R298): `YF` and `XF` from the operand `s`, not from the result. -/
def cpFlags (x : Sum8) (s : Byte) : Byte :=
  packF (bitOf x.r 7) (decide (x.r = 0)) (bitOf s 5) x.h (bitOf s 3) x.v true x.cy

/-- Flags of `AND` (R295). -/
def andFlags (r : Byte) : Byte := szyxF r true (parity r) false false

/-- Flags of `XOR` and `OR` (R296, R297). -/
def orFlags (r : Byte) : Byte := szyxF r false (parity r) false false

/-- Flags of `inc8(v)` with result `r`; `CF` stays (R299). -/
def incFlags (v r : Byte) (cf : Bool) : Byte :=
  szyxF r (decide (v.toNat % 16 = 15)) (decide (v = 0x7F)) false cf

/-- Flags of `dec8(v)` with result `r`; `CF` stays (R302). -/
def decFlags (v r : Byte) (cf : Bool) : Byte :=
  szyxF r (decide (v.toNat % 16 = 0)) (decide (v = 0x80)) true cf

/-- Flags of a rotate or shift of any operand (R374). -/
def rotFlags (r : Byte) (c : Bool) : Byte := szyxF r false (parity r) false c

/-- Flags of `RLCA`, `RRCA`, `RLA`, `RRA` (R370): `SF`, `ZF`, `PF` stay. -/
def accRotFlags (old : Cpu) (r : Byte) (c : Bool) : Byte :=
  packF old.sf old.zf (bitOf r 5) false (bitOf r 3) old.pf false c

/-- Flags of `RLD` and `RRD` for the new `A` (R383): `CF` stays. -/
def digitFlags (a : Byte) (cf : Bool) : Byte := szyxF a false (parity a) false cf

/-- Flags of `LD A,I` and `LD A,R` (R214, R215): `PF` is `IFF2`, `CF` stays. -/
def loadIRFlags (a : Byte) (iff2 cf : Bool) : Byte := szyxF a false iff2 false cf

/-- Flags of `IN r,(C)` and `IN (C)` (R451): `CF` stays. -/
def inFlags (v : Byte) (cf : Bool) : Byte := szyxF v false (parity v) false cf

/-- Flags of `BIT`, with `YF` and `XF` as the form gives them (R400 to R402): `CF` stays. -/
def bitFlags (v : Byte) (b : Nat) (yf xf cf : Bool) : Byte :=
  packF (decide (b = 7) && bitOf v b) (!bitOf v b) yf true xf (!bitOf v b) false cf

/-- Flags of `ADD HL,ss` and `ADD ii,pp` (R350, R353): `SF`, `ZF`, `PF` stay. -/
def add16Flags (old : Cpu) (x : Sum16) : Byte :=
  packF old.sf old.zf (x.r.getLsbD 13) x.h (x.r.getLsbD 11) old.pf false x.cy

/-- Flags of `ADC HL,ss` (`nf` false, R351) and `SBC HL,ss` (`nf` true, R352). -/
def carry16Flags (x : Sum16) (nf : Bool) : Byte :=
  packF (x.r.getLsbD 15) (decide (x.r = 0)) (x.r.getLsbD 13) x.h (x.r.getLsbD 11) x.v nf x.cy

/-- Flags of `LDI` and its kin (R265): `t` is the byte moved, `bc` the counter after the decrement; `SF`, `ZF`, `CF`
stay. -/
def ldBlockFlags (old : Cpu) (t : Byte) (bc : Word) : Byte :=
  let n := t + old.a
  packF old.sf old.zf (bitOf n 1) false (bitOf n 3) (decide (bc ≠ 0)) false old.cf

/-- Flags of `CPI` and its kin (R269): `t` is the byte read, `bc` the counter after the decrement; `CF` stays. -/
def cpBlockFlags (old : Cpu) (t : Byte) (bc : Word) : Byte :=
  let x := sub8 old.a t false
  let n := x.r - BitVec.setWidth 8 (BitVec.ofBool x.h)
  packF (bitOf x.r 7) (decide (x.r = 0)) (bitOf n 1) x.h (bitOf n 3) (decide (bc ≠ 0)) true old.cf

/-- Flags of block input and output (spec/49 section 3): `v` the byte moved, `bn` the counter after its decrement,
`k` the nine-bit number of the rule. -/
def ioBlockFlags (v bn : Byte) (k : Nat) : Byte :=
  szyxF bn (decide (k > 255)) (parity (BitVec.ofNat 8 (k % 8) ^^^ bn)) (bitOf v 7) (decide (k > 255))

/-- Flags of `SCF` (R325). -/
def scfFlags (old : Cpu) : Byte :=
  packF old.sf old.zf (bitOf old.a 5) false (bitOf old.a 3) old.pf false true

/-- Flags of `CCF` (R326). -/
def ccfFlags (old : Cpu) : Byte :=
  packF old.sf old.zf (bitOf old.a 5) old.cf (bitOf old.a 3) old.pf false (!old.cf)

/-- Flags of `CPL` for the new `A` (R328). -/
def cplFlags (old : Cpu) (a : Byte) : Byte :=
  packF old.sf old.zf (bitOf a 5) true (bitOf a 3) old.pf true old.cf

/-- The correction of `DAA` from the flags and `A` before it (R327). -/
def daaCorrection (old : Cpu) : Byte :=
  (if old.hf ∨ old.a.toNat % 16 > 9 then 0x06 else 0) + (if old.cf ∨ old.a.toNat > 0x99 then 0x60 else 0)

/-- The result of `DAA` (R327). -/
def daaResult (old : Cpu) : Byte :=
  if old.nf then old.a - daaCorrection old else old.a + daaCorrection old

/-- Flags of `DAA` (R327): `NF` stays. -/
def daaFlags (old : Cpu) : Byte :=
  let r := daaResult old
  szyxF r (bitOf (old.a ^^^ r) 4) (parity r) old.nf (old.cf || decide (old.a.toNat > 0x99))

end Sys2Proof.Machine
end

