-- ==== Sys2Proof/Machine/Memory.lean ====
section
/-! DEFINITION. Reading and writing a sparse memory; both keep the canonical form (R40, R96). The ROM images, whose type
carries that form and their length (R9). -/

namespace Sys2Proof.Machine

/-- The byte at offset `k`: the listed one, else `blank`. -/
def Memory.read (m : Memory) (k : Nat) : Byte :=
  match m with
  | [] => Memory.blank
  | (j, w) :: rest => if j = k then w else Memory.read rest k

/-- `m` without any entry at offset `k`. -/
def Memory.drop (m : Memory) (k : Nat) : Memory :=
  match m with
  | [] => []
  | (j, w) :: rest => if j = k then Memory.drop rest k else (j, w) :: Memory.drop rest k

/-- `m` with the entry `(k, v)` put before the first larger offset. -/
def Memory.place (m : Memory) (k : Nat) (v : Byte) : Memory :=
  match m with
  | [] => [(k, v)]
  | (j, w) :: rest => if k < j then (k, v) :: (j, w) :: rest else (j, w) :: Memory.place rest k v

/-- Write `v` at offset `k`; writing `blank` removes the entry. -/
def Memory.write (m : Memory) (k : Nat) (v : Byte) : Memory :=
  if v = Memory.blank then m.drop k else (m.drop k).place k v

/-- The canonical memory of `n` bytes whose byte at offset `k` is `g k`. -/
def Memory.tabulate (n : Nat) (g : Nat → Byte) : Memory :=
  (List.range n).filterMap (fun k => if g k = Memory.blank then none else some (k, g k))

/-! ### The canonical form is kept -/

theorem Memory.mem_drop (m : Memory) (k : Nat) (c : Host.Cell) : c ∈ m.drop k ↔ c ∈ m ∧ c.1 ≠ k := by
  induction m with
  | nil => simp [Memory.drop]
  | cons x m ih =>
    obtain ⟨j, w⟩ := x
    by_cases hj : j = k
    · subst hj
      simp only [Memory.drop, if_true, ih, List.mem_cons]
      constructor
      · rintro ⟨hm, hn⟩
        exact ⟨Or.inr hm, hn⟩
      · rintro ⟨rfl | hm, hn⟩
        · exact absurd rfl hn
        · exact ⟨hm, hn⟩
    · simp only [Memory.drop, hj, if_false, List.mem_cons, ih]
      constructor
      · rintro (rfl | ⟨hm, hn⟩)
        · exact ⟨Or.inl rfl, hj⟩
        · exact ⟨Or.inr hm, hn⟩
      · rintro ⟨rfl | hm, hn⟩
        · exact Or.inl rfl
        · exact Or.inr ⟨hm, hn⟩

theorem Memory.mem_place (m : Memory) (k : Nat) (v : Byte) (c : Host.Cell) :
    c ∈ m.place k v ↔ c = (k, v) ∨ c ∈ m := by
  induction m with
  | nil => simp [Memory.place]
  | cons x m ih =>
    obtain ⟨j, w⟩ := x
    by_cases hk : k < j
    · simp [Memory.place, hk]
    · simp only [Memory.place, hk, if_false, List.mem_cons, ih]
      tauto

theorem Memory.rising_drop (m : Memory) (k : Nat) (h : m.Pairwise (fun c d => c.1 < d.1)) :
    (m.drop k).Pairwise (fun c d => c.1 < d.1) := by
  induction m with
  | nil => simp [Memory.drop]
  | cons x m ih =>
    obtain ⟨j, w⟩ := x
    rw [List.pairwise_cons] at h
    by_cases hj : j = k
    · simp only [Memory.drop, hj, if_true]
      exact ih h.2
    · simp only [Memory.drop, hj, if_false, List.pairwise_cons]
      exact ⟨fun c hc => h.1 c ((Memory.mem_drop m k c).1 hc).1, ih h.2⟩

theorem Memory.rising_place (m : Memory) (k : Nat) (v : Byte) (h : m.Pairwise (fun c d => c.1 < d.1))
    (hk : ∀ c ∈ m, c.1 ≠ k) : (m.place k v).Pairwise (fun c d => c.1 < d.1) := by
  induction m with
  | nil => simp [Memory.place]
  | cons x m ih =>
    obtain ⟨j, w⟩ := x
    rw [List.pairwise_cons] at h
    have hj : j ≠ k := hk (j, w) (by simp)
    by_cases hlt : k < j
    · simp only [Memory.place, hlt, if_true, List.pairwise_cons]
      refine ⟨fun c hc => ?_, fun c hc => h.1 c hc, h.2⟩
      rcases List.mem_cons.1 hc with rfl | hc
      · exact hlt
      · exact lt_trans hlt (h.1 c hc)
    · simp only [Memory.place, hlt, if_false, List.pairwise_cons]
      refine ⟨fun c hc => ?_, ih h.2 fun c hc => hk c (by simp [hc])⟩
      rcases (Memory.mem_place m k v c).1 hc with rfl | hc
      · exact lt_of_le_of_ne (not_lt.1 hlt) hj
      · exact h.1 c hc

/-- A write keeps the canonical form. -/
theorem Memory.wf_write (m : Memory) (k : Nat) (v : Byte) (h : m.wf) : (m.write k v).wf := by
  unfold Memory.write
  split
  · exact ⟨Memory.rising_drop m k h.1, fun c hc => h.2 c ((Memory.mem_drop m k c).1 hc).1⟩
  · next hv =>
    refine ⟨Memory.rising_place _ _ _ (Memory.rising_drop m k h.1)
      fun c hc => ((Memory.mem_drop m k c).1 hc).2, fun c hc => ?_⟩
    rcases (Memory.mem_place _ _ _ c).1 hc with rfl | hc
    · exact hv
    · exact h.2 c ((Memory.mem_drop m k c).1 hc).1

/-- A write inside a device of `n` bytes keeps its memory canonical and inside it. -/
theorem Memory.wfBelow_write (n : Nat) (m : Memory) (k : Nat) (v : Byte) (h : m.wfBelow n) (hk : k < n) :
    (m.write k v).wfBelow n := by
  refine ⟨Memory.wf_write m k v h.1, fun c hc => ?_⟩
  unfold Memory.write at hc
  split at hc
  · exact h.2 c ((Memory.mem_drop m k c).1 hc).1
  · rcases (Memory.mem_place _ _ _ c).1 hc with rfl | hc
    · exact hk
    · exact h.2 c ((Memory.mem_drop m k c).1 hc).1

theorem Memory.mem_tabulate (n : Nat) (g : Nat → Byte) (c : Host.Cell) :
    c ∈ Memory.tabulate n g ↔ c.1 < n ∧ g c.1 ≠ Memory.blank ∧ c.2 = g c.1 := by
  obtain ⟨k, v⟩ := c
  simp only [Memory.tabulate, List.mem_filterMap, List.mem_range]
  constructor
  · rintro ⟨a, ha, hv⟩
    split at hv
    · cases hv
    · next hb =>
      cases hv
      exact ⟨ha, hb, rfl⟩
  · rintro ⟨hk, hb, hv⟩
    refine ⟨k, hk, ?_⟩
    rw [if_neg hb]
    exact congrArg some (Prod.ext rfl hv.symm)

/-- A tabulated memory is canonical and inside its device. -/
theorem Memory.wfBelow_tabulate (n : Nat) (g : Nat → Byte) : (Memory.tabulate n g).wfBelow n := by
  refine ⟨⟨?_, fun c hc => ?_⟩, fun c hc => ((Memory.mem_tabulate n g c).1 hc).1⟩
  · unfold Memory.tabulate
    refine List.Pairwise.filterMap _ (fun a a' h b hb b' hb' => ?_) List.pairwise_lt_range
    split at hb
    · cases hb
    · split at hb'
      · cases hb'
      · cases hb
        cases hb'
        exact h
  · have h := (Memory.mem_tabulate n g c).1 hc
    rw [h.2.2]
    exact h.2.1

/-! ### ROM images -/

/-- The byte of an image at offset `k`. -/
def Rom.read {size : Nat} (r : Rom size) (k : Nat) : Byte := r.cells.read k

/-- The image with the byte at offset `k` replaced; an offset outside it changes nothing (log 6). -/
def Rom.write {size : Nat} (r : Rom size) (k : Nat) (v : Byte) : Rom size :=
  if h : k < size then { cells := r.cells.write k v, fits := Memory.wfBelow_write size r.cells k v r.fits h } else r

/-- The image with these bytes, the first at offset 0 (R540). -/
def Rom.ofBytes (size : Nat) (bytes : List Byte) : Rom size :=
  { cells := Memory.tabulate size (fun k => bytes.getD k Memory.blank), fits := Memory.wfBelow_tabulate size _ }

end Sys2Proof.Machine
end

