-- ==== Sys2Proof/Machine/Bus.lean ====
section
/-! DEFINITION. The memory bus: address decode, device reads and writes, the audio registers, the I/O port space
(R80 to R121, R602). -/

namespace Sys2Proof.Machine

/-- Where a read goes (R86). An offset counts from the start of its region. -/
inductive ReadTarget where
  | rom (k : Nat) | ram (k : Nat) | in0 | in1 | dip | unmapped
  deriving DecidableEq, Repr

/-- Where a write goes (R86, R102, R103). -/
inductive WriteTarget where
  | ram (k : Nat) | intEnable | soundEnable | flipScreen | audio (off : Nat) | sprite (k : Nat) | nothing
  deriving DecidableEq, Repr

/-- Address bit 15 is not decoded (R85). -/
def mirror (addr : Word) : Nat := addr.toNat % 32768

/-- The region that answers a read (R86). -/
def readTarget (addr : Word) : ReadTarget :=
  let a := mirror addr
  if a < 0x4000 then .rom a
  else if a < 0x5000 then .ram (a - 0x4000)
  else if a < 0x5040 then .in0
  else if a < 0x5080 then .in1
  else if a < 0x50C0 then .dip
  else .unmapped

/-- The region that takes a write (R86, R95, R102 to R106). -/
def writeTarget (addr : Word) : WriteTarget :=
  let a := mirror addr
  if a < 0x4000 then .nothing
  else if a < 0x5000 then .ram (a - 0x4000)
  else if a = 0x5000 then .intEnable
  else if a = 0x5001 then .soundEnable
  else if a = 0x5003 then .flipScreen
  else if a < 0x5040 then .nothing
  else if a < 0x5060 then .audio (a - 0x5040)
  else if a < 0x5070 then .sprite (a - 0x5060)
  else .nothing

/-- A byte from its eight bits, bit 7 first. -/
def byteOfBits (b7 b6 b5 b4 b3 b2 b1 b0 : Bool) : Byte :=
  BitVec.ofBool b7 ++ (BitVec.ofBool b6 ++ (BitVec.ofBool b5 ++ (BitVec.ofBool b4 ++
    (BitVec.ofBool b3 ++ (BitVec.ofBool b2 ++ (BitVec.ofBool b1 ++ BitVec.ofBool b0))))))

/-- Input port IN0, active-low (R98). -/
def portIn0 (i : Inputs) : Byte :=
  byteOfBits (!i.credit) (!i.coin2) (!i.coin1) (!i.rackAdvance) (!i.down) (!i.right) (!i.left) (!i.up)

/-- Input port IN1, active-low but for `CABINET_BIT` (R99). -/
def portIn1 (i : Inputs) : Byte :=
  byteOfBits Config.cabinetBit (!i.start2) (!i.start1) (!i.boardTest) (!i.down) (!i.right) (!i.left) (!i.up)

/-- `BusRead(addr)` (R90): total, without any side effect. -/
def State.busRead (s : State) (addr : Word) : Byte :=
  match readTarget addr with
  | .rom k => s.roms.prog.read k
  | .ram k => s.bus.ram.read k
  | .in0 => portIn0 s.bus.inputs
  | .in1 => portIn1 s.bus.inputs
  | .dip => Config.dipSwitches
  | .unmapped => Config.unmappedRead

/-- The low nibble of a data byte: the data lines of the sound chip (R602). -/
def lowNibble (v : Byte) : BitVec 4 := v.extractLsb' 0 4

/-- `freq` with nibble `k` (bits `4k+3..4k`) replaced (R601, R602). -/
def setNibble (f : BitVec 20) (k : Nat) (d : BitVec 4) : BitVec 20 :=
  (f &&& ~~~((0xF : BitVec 20) <<< (4 * k))) ||| (d.setWidth 20 <<< (4 * k))

/-- `wave <- d AND 0x07` (R602). -/
def Channel.setWave (c : Channel) (d : BitVec 4) : Channel := { c with wave := d.extractLsb' 0 3 }

/-- `vol <- d` (R602). -/
def Channel.setVol (c : Channel) (d : BitVec 4) : Channel := { c with vol := d }

/-- `freq` nibble `k <- d` (R602). -/
def Channel.setFreq (c : Channel) (k : Nat) (d : BitVec 4) : Channel := { c with freq := setNibble c.freq k d }

/-- `AudioWrite(off, v)` (R602). -/
def Audio.write (au : Audio) (off : Nat) (v : Byte) : Audio :=
  let d := lowNibble v
  if off = 0x05 then { au with ch0 := au.ch0.setWave d }
  else if off = 0x0A then { au with ch1 := au.ch1.setWave d }
  else if off = 0x0F then { au with ch2 := au.ch2.setWave d }
  else if off < 0x10 then au
  else if off < 0x15 then { au with ch0 := au.ch0.setFreq (off - 0x10) d }
  else if off = 0x15 then { au with ch0 := au.ch0.setVol d }
  else if off < 0x1A then { au with ch1 := au.ch1.setFreq (off - 0x15) d }
  else if off = 0x1A then { au with ch1 := au.ch1.setVol d }
  else if off < 0x1F then { au with ch2 := au.ch2.setFreq (off - 0x1A) d }
  else if off = 0x1F then { au with ch2 := au.ch2.setVol d }
  else au

/-- `BusWrite(addr, v)` (R91): total; where the map says no-op nothing changes. -/
def State.busWrite (s : State) (addr : Word) (v : Byte) : State :=
  match writeTarget addr with
  | .ram k => { s with bus := { s.bus with ram := s.bus.ram.write k v } }
  | .intEnable => { s with bus := { s.bus with intEnable := bitOf v 0 } }
  | .soundEnable => { s with bus := { s.bus with soundEnable := bitOf v 0 } }
  | .flipScreen => { s with bus := { s.bus with flipScreen := bitOf v 0 } }
  | .audio off => { s with audio := s.audio.write off v }
  | .sprite k => { s with bus := { s.bus with spritePos := s.bus.spritePos.write k v } }
  | .nothing => s

/-- `IoRead(port)` (R120): a free value, marked by the number of free values drawn before it (log 13). -/
def State.ioRead (s : State) (port : Word) : Byte := Config.ioIn s.draws port

/-- One more free value has been drawn (R120, R401; log 18). -/
def State.drawn (s : State) : State := { s with draws := s.draws + 1 }

/-- `IoWrite(port, v)` (R121): `int_vector <- v`, whatever `port` is. -/
def State.ioWrite (s : State) (_port : Word) (v : Byte) : State :=
  { s with bus := { s.bus with intVector := v } }

end Sys2Proof.Machine
end

