-- ==== Sys2Proof/Syntax.lean ====
section
/-! DEFINITION. The instructions: one constructor for each mnemonic of spec/opcode_table.json, and the names of their
operands (R13, R142, R144). The opcode numbers of the operand names are in Decode.lean. -/

namespace Sys2Proof

/-- `R8[k]` without code 6: an 8-bit register (R13). -/
inductive Reg8 where
  | b | c | d | e | h | l | a
  deriving DecidableEq, Repr

/-- `RP[p]`: a register pair or `SP` (R13). -/
inductive Pair where
  | bc | de | hl | sp
  deriving DecidableEq, Repr

/-- `RP2[p]`: a pair that PUSH and POP name (R13). -/
inductive StackPair where
  | bc | de | hl | af
  deriving DecidableEq, Repr

/-- The pair operand of `ADD IX,pp` and `ADD IY,rr`: code 2 is the index register itself (R353). -/
inductive IxPair where
  | bc | de | ii | sp
  deriving DecidableEq, Repr

/-- `CC[c]`: a condition (R13). -/
inductive Cond where
  | nz | z | nc | c | po | pe | p | m
  deriving DecidableEq, Repr

/-- The four conditions of `JR cc,e` (R423). -/
inductive JrCond where
  | nz | z | nc | c
  deriving DecidableEq, Repr

/-- An index register (R23). -/
inductive Index where
  | ix | iy
  deriving DecidableEq, Repr

/-- A half of an index register (R161). -/
inductive Half where
  | hi | lo
  deriving DecidableEq, Repr

/-- The source operand of a load into an index half: `R8` with code 4 read as `iiH` and code 5 as `iiL` (R218). -/
inductive XReg8 where
  | b | c | d | e | xh | xl | a
  deriving DecidableEq, Repr

/-- The index prefix that stands before a main-table opcode it does not change (format XY_PASS, R166, R323);
`none` is the unprefixed row. -/
inductive Pass where
  | none | dd | fd
  deriving DecidableEq, Repr

/-- A 3-bit opcode field: a bit number, a restart number, or the field that tells a documented encoding from its
copies (R142, R144, R164). -/
abbrev Code3 := Fin 8

/-- The instructions. A constructor that carries `p : Pass` covers three rows of the table with one mnemonic: the
unprefixed row and the two XY_PASS rows. The IX row and the IY row of an index instruction have different mnemonics
and a constructor each. The constructors with operands stand first, then those without, each in the table's order. -/
inductive Instr where
  /-- `NOP` (R324) -/
  | nop (p : Pass)
  /-- `EX AF,AF'` (R261) -/
  | exAfAf (p : Pass)
  /-- `DJNZ e` (R426) -/
  | djnz (p : Pass) (e : Byte)
  /-- `JR e` (R422) -/
  | jrE (p : Pass) (e : Byte)
  /-- `JR cc,e` (R423) -/
  | jrCcE (p : Pass) (cc : JrCond) (e : Byte)
  /-- `LD dd,nn` (R230) -/
  | ldDdNn (p : Pass) (q : Pair) (nn : Word)
  /-- `ADD HL,ss` (R350) -/
  | addHlSs (q : Pair)
  /-- `LD (BC),A` (R211) -/
  | ldBcA (p : Pass)
  /-- `LD (DE),A` (R212) -/
  | ldDeA (p : Pass)
  /-- `LD (nn),HL` (R235) -/
  | ldNnHl (nn : Word)
  /-- `LD (nn),A` (R213) -/
  | ldNnA (p : Pass) (nn : Word)
  /-- `LD A,(BC)` (R208) -/
  | ldABc (p : Pass)
  /-- `LD A,(DE)` (R209) -/
  | ldADe (p : Pass)
  /-- `LD HL,(nn)` (R232) -/
  | ldHlNn (nn : Word)
  /-- `LD A,(nn)` (R210) -/
  | ldANn (p : Pass) (nn : Word)
  /-- `INC ss` (R354) -/
  | incSs (p : Pass) (q : Pair)
  /-- `DEC ss` (R355) -/
  | decSs (p : Pass) (q : Pair)
  /-- `INC r` (R299) -/
  | incR (p : Pass) (r : Reg8)
  /-- `DEC r` (R302) -/
  | decR (p : Pass) (r : Reg8)
  /-- `LD r,n` (R201) -/
  | ldRN (p : Pass) (r : Reg8) (n : Byte)
  /-- `LD (HL),n` (R206) -/
  | ldHlN (n : Byte)
  /-- `RLCA` (R370) -/
  | rlca (p : Pass)
  /-- `RRCA` (R371) -/
  | rrca (p : Pass)
  /-- `RLA` (R372) -/
  | rla (p : Pass)
  /-- `RRA` (R373) -/
  | rra (p : Pass)
  /-- `DAA` (R327) -/
  | daa (p : Pass)
  /-- `CPL` (R328) -/
  | cpl (p : Pass)
  /-- `SCF` (R325) -/
  | scf (p : Pass)
  /-- `CCF` (R326) -/
  | ccf (p : Pass)
  /-- `LD r,r'` (R200) -/
  | ldRR (p : Pass) (dst : Reg8) (r : Reg8)
  /-- `LD r,(HL)` (R202) -/
  | ldRHl (r : Reg8)
  /-- `LD (HL),r` (R204) -/
  | ldHlR (r : Reg8)
  /-- `HALT` (R331) -/
  | halt (p : Pass)
  /-- `ADD A,r` (R291) -/
  | addAR (p : Pass) (r : Reg8)
  /-- `ADD A,n` (R291) -/
  | addAN (p : Pass) (n : Byte)
  /-- `ADC A,r` (R292) -/
  | adcAR (p : Pass) (r : Reg8)
  /-- `ADC A,n` (R292) -/
  | adcAN (p : Pass) (n : Byte)
  /-- `SUB r` (R293) -/
  | subR (p : Pass) (r : Reg8)
  /-- `SUB n` (R293) -/
  | subN (p : Pass) (n : Byte)
  /-- `SBC A,r` (R294) -/
  | sbcAR (p : Pass) (r : Reg8)
  /-- `SBC A,n` (R294) -/
  | sbcAN (p : Pass) (n : Byte)
  /-- `AND r` (R295) -/
  | andR (p : Pass) (r : Reg8)
  /-- `AND n` (R295) -/
  | andN (p : Pass) (n : Byte)
  /-- `XOR r` (R296) -/
  | xorR (p : Pass) (r : Reg8)
  /-- `XOR n` (R296) -/
  | xorN (p : Pass) (n : Byte)
  /-- `OR r` (R297) -/
  | orR (p : Pass) (r : Reg8)
  /-- `OR n` (R297) -/
  | orN (p : Pass) (n : Byte)
  /-- `CP r` (R298) -/
  | cpR (p : Pass) (r : Reg8)
  /-- `CP n` (R298) -/
  | cpN (p : Pass) (n : Byte)
  /-- `RET cc` (R433) -/
  | retCc (p : Pass) (cc : Cond)
  /-- `POP qq` (R242) -/
  | popQq (p : Pass) (q : StackPair)
  /-- `RET` (R432) -/
  | ret (p : Pass)
  /-- `EXX` (R262) -/
  | exx (p : Pass)
  /-- `JP cc,nn` (R421) -/
  | jpCcNn (p : Pass) (cc : Cond) (nn : Word)
  /-- `JP nn` (R420) -/
  | jpNn (p : Pass) (nn : Word)
  /-- `OUT (n),A` (R453) -/
  | outNA (p : Pass) (n : Byte)
  /-- `IN A,(n)` (R450) -/
  | inAN (p : Pass) (n : Byte)
  /-- `EX DE,HL` (R260) -/
  | exDeHl (p : Pass)
  /-- `DI` (R332) -/
  | di (p : Pass)
  /-- `EI` (R333) -/
  | ei (p : Pass)
  /-- `CALL cc,nn` (R431) -/
  | callCcNn (p : Pass) (cc : Cond) (nn : Word)
  /-- `PUSH qq` (R240) -/
  | pushQq (p : Pass) (q : StackPair)
  /-- `CALL nn` (R430) -/
  | callNn (p : Pass) (nn : Word)
  /-- `RST 8*t` (R436) -/
  | rst (p : Pass) (t : Code3)
  /-- `RLC r` (R375) -/
  | rlcR (r : Reg8)
  /-- `RRC r` (R376) -/
  | rrcR (r : Reg8)
  /-- `RL r` (R377) -/
  | rlR (r : Reg8)
  /-- `RR r` (R378) -/
  | rrR (r : Reg8)
  /-- `SLA r` (R379) -/
  | slaR (r : Reg8)
  /-- `SRA r` (R380) -/
  | sraR (r : Reg8)
  /-- `SLL r` (R381) -/
  | sllR (r : Reg8)
  /-- `SRL r` (R382) -/
  | srlR (r : Reg8)
  /-- `BIT b,r` (R400) -/
  | bitR (b : Code3) (r : Reg8)
  /-- `BIT b,(HL)` (R401) -/
  | bitHl (b : Code3)
  /-- `RES b,r` (R407) -/
  | resR (b : Code3) (r : Reg8)
  /-- `RES b,(HL)` (R408) -/
  | resHl (b : Code3)
  /-- `SET b,r` (R403) -/
  | setR (b : Code3) (r : Reg8)
  /-- `SET b,(HL)` (R404) -/
  | setHl (b : Code3)
  /-- `IN r,(C)` (R451) -/
  | inRC (r : Reg8)
  /-- `OUT (C),r` (R454) -/
  | outCR (r : Reg8)
  /-- `SBC HL,ss` (R352) -/
  | sbcHlSs (q : Pair)
  /-- `ADC HL,ss` (R351) -/
  | adcHlSs (q : Pair)
  /-- `LD (nn),dd` (R236) -/
  | ldMemDd (q : Pair) (nn : Word)
  /-- `LD dd,(nn)` (R233) -/
  | ldDdMem (q : Pair) (nn : Word)
  /-- NEG; `y` is the opcode field that tells the documented encoding (0) from its seven copies (R329) -/
  | neg (y : Code3)
  /-- RETN; `y` (not 1) is the opcode field, 0 in the documented encoding (R435) -/
  | retn (y : Code3)
  /-- IM 0; `y` in 0, 1, 4, 5 is the opcode field (R330) -/
  | im0 (y : Code3)
  /-- IM 1; `y` in 2, 6 is the opcode field (R330) -/
  | im1 (y : Code3)
  /-- IM 2; `y` in 3, 7 is the opcode field (R330) -/
  | im2 (y : Code3)
  /-- `an ED opcode that R147 does not assign` (R322) -/
  | nopEd (op : Byte)
  /-- `LD IX,nn` (R231) -/
  | ldIxNn (nn : Word)
  /-- `LD (nn),IX` (R237) -/
  | ldMemIx (nn : Word)
  /-- `LD IX,(nn)` (R234) -/
  | ldIxMem (nn : Word)
  /-- `ADD IX,pp` (R353) -/
  | addIxPp (q : IxPair)
  /-- `LD IXH,n` (R219) -/
  | ldIxhN (n : Byte)
  /-- `LD IXL,n` (R219) -/
  | ldIxlN (n : Byte)
  /-- `INC (IX+d)` (R301) -/
  | incIxd (d : Byte)
  /-- `DEC (IX+d)` (R304) -/
  | decIxd (d : Byte)
  /-- `LD (IX+d),n` (R207) -/
  | ldIxdN (d : Byte) (n : Byte)
  /-- `LD r,(IX+d)` (R203) -/
  | ldRIxd (r : Reg8) (d : Byte)
  /-- `LD (IX+d),r` (R205) -/
  | ldIxdR (r : Reg8) (d : Byte)
  /-- `LD IXH,r' and LD IXL,r'` (R218) -/
  | ldIxHalfR (h : Half) (r : XReg8)
  /-- `LD r,IXH and LD r,IXL` (R218) -/
  | ldRIxHalf (r : Reg8) (h : Half)
  /-- `ADD A,(IX+d)` (R291) -/
  | addAIxd (d : Byte)
  /-- `ADC A,(IX+d)` (R292) -/
  | adcAIxd (d : Byte)
  /-- `SUB (IX+d)` (R293) -/
  | subIxd (d : Byte)
  /-- `SBC A,(IX+d)` (R294) -/
  | sbcAIxd (d : Byte)
  /-- `AND (IX+d)` (R295) -/
  | andIxd (d : Byte)
  /-- `XOR (IX+d)` (R296) -/
  | xorIxd (d : Byte)
  /-- `OR (IX+d)` (R297) -/
  | orIxd (d : Byte)
  /-- `CP (IX+d)` (R298) -/
  | cpIxd (d : Byte)
  /-- `LD IY,nn` (R231) -/
  | ldIyNn (nn : Word)
  /-- `LD (nn),IY` (R237) -/
  | ldMemIy (nn : Word)
  /-- `LD IY,(nn)` (R234) -/
  | ldIyMem (nn : Word)
  /-- `ADD IY,pp` (R353) -/
  | addIyPp (q : IxPair)
  /-- `LD IYH,n` (R219) -/
  | ldIyhN (n : Byte)
  /-- `LD IYL,n` (R219) -/
  | ldIylN (n : Byte)
  /-- `INC (IY+d)` (R301) -/
  | incIyd (d : Byte)
  /-- `DEC (IY+d)` (R304) -/
  | decIyd (d : Byte)
  /-- `LD (IY+d),n` (R207) -/
  | ldIydN (d : Byte) (n : Byte)
  /-- `LD r,(IY+d)` (R203) -/
  | ldRIyd (r : Reg8) (d : Byte)
  /-- `LD (IY+d),r` (R205) -/
  | ldIydR (r : Reg8) (d : Byte)
  /-- `LD IYH,r' and LD IYL,r'` (R218) -/
  | ldIyHalfR (h : Half) (r : XReg8)
  /-- `LD r,IYH and LD r,IYL` (R218) -/
  | ldRIyHalf (r : Reg8) (h : Half)
  /-- `ADD A,(IY+d)` (R291) -/
  | addAIyd (d : Byte)
  /-- `ADC A,(IY+d)` (R292) -/
  | adcAIyd (d : Byte)
  /-- `SUB (IY+d)` (R293) -/
  | subIyd (d : Byte)
  /-- `SBC A,(IY+d)` (R294) -/
  | sbcAIyd (d : Byte)
  /-- `AND (IY+d)` (R295) -/
  | andIyd (d : Byte)
  /-- `XOR (IY+d)` (R296) -/
  | xorIyd (d : Byte)
  /-- `OR (IY+d)` (R297) -/
  | orIyd (d : Byte)
  /-- `CP (IY+d)` (R298) -/
  | cpIyd (d : Byte)
  /-- `RLC (IX+d)` (R375) -/
  | rlcIxd (d : Byte)
  /-- `RLC (IX+d),r` (R375) -/
  | rlcIxdR (d : Byte) (r : Reg8)
  /-- `RRC (IX+d)` (R376) -/
  | rrcIxd (d : Byte)
  /-- `RRC (IX+d),r` (R376) -/
  | rrcIxdR (d : Byte) (r : Reg8)
  /-- `RL (IX+d)` (R377) -/
  | rlIxd (d : Byte)
  /-- `RL (IX+d),r` (R377) -/
  | rlIxdR (d : Byte) (r : Reg8)
  /-- `RR (IX+d)` (R378) -/
  | rrIxd (d : Byte)
  /-- `RR (IX+d),r` (R378) -/
  | rrIxdR (d : Byte) (r : Reg8)
  /-- `SLA (IX+d)` (R379) -/
  | slaIxd (d : Byte)
  /-- `SLA (IX+d),r` (R379) -/
  | slaIxdR (d : Byte) (r : Reg8)
  /-- `SRA (IX+d)` (R380) -/
  | sraIxd (d : Byte)
  /-- `SRA (IX+d),r` (R380) -/
  | sraIxdR (d : Byte) (r : Reg8)
  /-- `SLL (IX+d)` (R381) -/
  | sllIxd (d : Byte)
  /-- `SLL (IX+d),r` (R381) -/
  | sllIxdR (d : Byte) (r : Reg8)
  /-- `SRL (IX+d)` (R382) -/
  | srlIxd (d : Byte)
  /-- `SRL (IX+d),r` (R382) -/
  | srlIxdR (d : Byte) (r : Reg8)
  /-- BIT b,(IX+d); `z` is the opcode field, 6 in the documented encoding (R402) -/
  | bitIxd (b : Code3) (d : Byte) (z : Code3)
  /-- `RES b,(IX+d)` (R409) -/
  | resIxd (b : Code3) (d : Byte)
  /-- `RES b,(IX+d),r` (R410) -/
  | resIxdR (b : Code3) (d : Byte) (r : Reg8)
  /-- `SET b,(IX+d)` (R405) -/
  | setIxd (b : Code3) (d : Byte)
  /-- `SET b,(IX+d),r` (R406) -/
  | setIxdR (b : Code3) (d : Byte) (r : Reg8)
  /-- `RLC (IY+d)` (R375) -/
  | rlcIyd (d : Byte)
  /-- `RLC (IY+d),r` (R375) -/
  | rlcIydR (d : Byte) (r : Reg8)
  /-- `RRC (IY+d)` (R376) -/
  | rrcIyd (d : Byte)
  /-- `RRC (IY+d),r` (R376) -/
  | rrcIydR (d : Byte) (r : Reg8)
  /-- `RL (IY+d)` (R377) -/
  | rlIyd (d : Byte)
  /-- `RL (IY+d),r` (R377) -/
  | rlIydR (d : Byte) (r : Reg8)
  /-- `RR (IY+d)` (R378) -/
  | rrIyd (d : Byte)
  /-- `RR (IY+d),r` (R378) -/
  | rrIydR (d : Byte) (r : Reg8)
  /-- `SLA (IY+d)` (R379) -/
  | slaIyd (d : Byte)
  /-- `SLA (IY+d),r` (R379) -/
  | slaIydR (d : Byte) (r : Reg8)
  /-- `SRA (IY+d)` (R380) -/
  | sraIyd (d : Byte)
  /-- `SRA (IY+d),r` (R380) -/
  | sraIydR (d : Byte) (r : Reg8)
  /-- `SLL (IY+d)` (R381) -/
  | sllIyd (d : Byte)
  /-- `SLL (IY+d),r` (R381) -/
  | sllIydR (d : Byte) (r : Reg8)
  /-- `SRL (IY+d)` (R382) -/
  | srlIyd (d : Byte)
  /-- `SRL (IY+d),r` (R382) -/
  | srlIydR (d : Byte) (r : Reg8)
  /-- BIT b,(IY+d); `z` is the opcode field, 6 in the documented encoding (R402) -/
  | bitIyd (b : Code3) (d : Byte) (z : Code3)
  /-- `RES b,(IY+d)` (R409) -/
  | resIyd (b : Code3) (d : Byte)
  /-- `RES b,(IY+d),r` (R410) -/
  | resIydR (b : Code3) (d : Byte) (r : Reg8)
  /-- `SET b,(IY+d)` (R405) -/
  | setIyd (b : Code3) (d : Byte)
  /-- `SET b,(IY+d),r` (R406) -/
  | setIydR (b : Code3) (d : Byte) (r : Reg8)
  /-- `INC (HL)` (R300) -/
  | incHl
  /-- `DEC (HL)` (R303) -/
  | decHl
  /-- `ADD A,(HL)` (R291) -/
  | addAHl
  /-- `ADC A,(HL)` (R292) -/
  | adcAHl
  /-- `SUB (HL)` (R293) -/
  | subHl
  /-- `SBC A,(HL)` (R294) -/
  | sbcAHl
  /-- `AND (HL)` (R295) -/
  | andHl
  /-- `XOR (HL)` (R296) -/
  | xorHl
  /-- `OR (HL)` (R297) -/
  | orHl
  /-- `CP (HL)` (R298) -/
  | cpHl
  /-- `JP (HL)` (R424) -/
  | jpHl
  /-- `LD SP,HL` (R238) -/
  | ldSpHl
  /-- `the bare prefix CB: no instruction, it selects a table` (R141) -/
  | prefixCb
  /-- `EX (SP),HL` (R263) -/
  | exSpHl
  /-- `the bare prefix DD: no instruction, it selects a table` (R141) -/
  | prefixDd
  /-- `the bare prefix ED: no instruction, it selects a table` (R141) -/
  | prefixEd
  /-- `the bare prefix FD: no instruction, it selects a table` (R141) -/
  | prefixFd
  /-- `RLC (HL)` (R375) -/
  | rlcHl
  /-- `RRC (HL)` (R376) -/
  | rrcHl
  /-- `RL (HL)` (R377) -/
  | rlHl
  /-- `RR (HL)` (R378) -/
  | rrHl
  /-- `SLA (HL)` (R379) -/
  | slaHl
  /-- `SRA (HL)` (R380) -/
  | sraHl
  /-- `SLL (HL)` (R381) -/
  | sllHl
  /-- `SRL (HL)` (R382) -/
  | srlHl
  /-- `IN (C)` (R452) -/
  | inC
  /-- `OUT (C),0` (R455) -/
  | outC0
  /-- `RETI` (R434) -/
  | reti
  /-- `LD I,A` (R216) -/
  | ldIA
  /-- `LD R,A` (R217) -/
  | ldRA
  /-- `LD A,I` (R214) -/
  | ldAI
  /-- `LD A,R` (R215) -/
  | ldAR
  /-- `RRD` (R384) -/
  | rrd
  /-- `RLD` (R383) -/
  | rld
  /-- `LDI` (R265) -/
  | ldi
  /-- `CPI` (R269) -/
  | cpi
  /-- `INI` (R456) -/
  | ini
  /-- `OUTI` (R460) -/
  | outi
  /-- `LDD` (R267) -/
  | ldd
  /-- `CPD` (R271) -/
  | cpd
  /-- `IND` (R458) -/
  | ind
  /-- `OUTD` (R462) -/
  | outd
  /-- `LDIR` (R266) -/
  | ldir
  /-- `CPIR` (R270) -/
  | cpir
  /-- `INIR` (R457) -/
  | inir
  /-- `OTIR` (R461) -/
  | otir
  /-- `LDDR` (R268) -/
  | lddr
  /-- `CPDR` (R272) -/
  | cpdr
  /-- `INDR` (R459) -/
  | indr
  /-- `OTDR` (R463) -/
  | otdr
  /-- `INC IX` (R356) -/
  | incIx
  /-- `DEC IX` (R357) -/
  | decIx
  /-- `INC IXH` (R305) -/
  | incIxh
  /-- `DEC IXH` (R305) -/
  | decIxh
  /-- `INC IXL` (R305) -/
  | incIxl
  /-- `DEC IXL` (R305) -/
  | decIxl
  /-- `ADD A,IXH` (R291) -/
  | addAIxh
  /-- `ADD A,IXL` (R291) -/
  | addAIxl
  /-- `ADC A,IXH` (R292) -/
  | adcAIxh
  /-- `ADC A,IXL` (R292) -/
  | adcAIxl
  /-- `SUB IXH` (R293) -/
  | subIxh
  /-- `SUB IXL` (R293) -/
  | subIxl
  /-- `SBC A,IXH` (R294) -/
  | sbcAIxh
  /-- `SBC A,IXL` (R294) -/
  | sbcAIxl
  /-- `AND IXH` (R295) -/
  | andIxh
  /-- `AND IXL` (R295) -/
  | andIxl
  /-- `XOR IXH` (R296) -/
  | xorIxh
  /-- `XOR IXL` (R296) -/
  | xorIxl
  /-- `OR IXH` (R297) -/
  | orIxh
  /-- `OR IXL` (R297) -/
  | orIxl
  /-- `CP IXH` (R298) -/
  | cpIxh
  /-- `CP IXL` (R298) -/
  | cpIxl
  /-- `POP IX` (R243) -/
  | popIx
  /-- `PUSH IX` (R241) -/
  | pushIx
  /-- `EX (SP),IX` (R264) -/
  | exSpIx
  /-- `JP (IX)` (R425) -/
  | jpIx
  /-- `LD SP,IX` (R239) -/
  | ldSpIx
  /-- `the bare prefix DD CB: no instruction, it selects a table` (R141) -/
  | prefixDdCb
  /-- `a lone DD prefix before a byte DD` (R152) -/
  | aloneDdDd
  /-- `a lone DD prefix before a byte ED` (R152) -/
  | aloneDdEd
  /-- `a lone DD prefix before a byte FD` (R152) -/
  | aloneDdFd
  /-- `INC IY` (R356) -/
  | incIy
  /-- `DEC IY` (R357) -/
  | decIy
  /-- `INC IYH` (R305) -/
  | incIyh
  /-- `DEC IYH` (R305) -/
  | decIyh
  /-- `INC IYL` (R305) -/
  | incIyl
  /-- `DEC IYL` (R305) -/
  | decIyl
  /-- `ADD A,IYH` (R291) -/
  | addAIyh
  /-- `ADD A,IYL` (R291) -/
  | addAIyl
  /-- `ADC A,IYH` (R292) -/
  | adcAIyh
  /-- `ADC A,IYL` (R292) -/
  | adcAIyl
  /-- `SUB IYH` (R293) -/
  | subIyh
  /-- `SUB IYL` (R293) -/
  | subIyl
  /-- `SBC A,IYH` (R294) -/
  | sbcAIyh
  /-- `SBC A,IYL` (R294) -/
  | sbcAIyl
  /-- `AND IYH` (R295) -/
  | andIyh
  /-- `AND IYL` (R295) -/
  | andIyl
  /-- `XOR IYH` (R296) -/
  | xorIyh
  /-- `XOR IYL` (R296) -/
  | xorIyl
  /-- `OR IYH` (R297) -/
  | orIyh
  /-- `OR IYL` (R297) -/
  | orIyl
  /-- `CP IYH` (R298) -/
  | cpIyh
  /-- `CP IYL` (R298) -/
  | cpIyl
  /-- `POP IY` (R243) -/
  | popIy
  /-- `PUSH IY` (R241) -/
  | pushIy
  /-- `EX (SP),IY` (R264) -/
  | exSpIy
  /-- `JP (IY)` (R425) -/
  | jpIy
  /-- `LD SP,IY` (R239) -/
  | ldSpIy
  /-- `the bare prefix FD CB: no instruction, it selects a table` (R141) -/
  | prefixFdCb
  /-- `a lone FD prefix before a byte DD` (R152) -/
  | aloneFdDd
  /-- `a lone FD prefix before a byte ED` (R152) -/
  | aloneFdEd
  /-- `a lone FD prefix before a byte FD` (R152) -/
  | aloneFdFd
  deriving DecidableEq, Repr

end Sys2Proof
end

