-- ==== Sys2Proof/Machine/Ops.lean ====
section
/-! DEFINITION. The named operations over registers and memory (R13, R18), taking the interrupt (R510 to R514) and
returning from it (R434, R435). -/

namespace Sys2Proof.Machine

/-! ### Registers -/

/-- `R8[k]` (R13). -/
def Cpu.reg (c : Cpu) (r : Reg8) : Byte :=
  match r with
  | .b => c.b | .c => c.c | .d => c.d | .e => c.e | .h => c.h | .l => c.l | .a => c.a

/-- `R8[k] <- v` (R13). -/
def Cpu.setReg (c : Cpu) (r : Reg8) (v : Byte) : Cpu :=
  match r with
  | .b => { c with b := v } | .c => { c with c := v } | .d => { c with d := v } | .e => { c with e := v }
  | .h => { c with h := v } | .l => { c with l := v } | .a => { c with a := v }

/-- `RP[p]` (R13, R21). -/
def Cpu.rp (c : Cpu) (q : Pair) : Word :=
  match q with
  | .bc => joinBytes c.b c.c
  | .de => joinBytes c.d c.e
  | .hl => joinBytes c.h c.l
  | .sp => c.sp

/-- `RP[p] <- v`: writing a pair writes both halves (R13). -/
def Cpu.setRp (c : Cpu) (q : Pair) (v : Word) : Cpu :=
  match q with
  | .bc => { c with b := hi v, c := lo v }
  | .de => { c with d := hi v, e := lo v }
  | .hl => { c with h := hi v, l := lo v }
  | .sp => { c with sp := v }

/-- `RP2[p]` (R13). -/
def Cpu.rp2 (c : Cpu) (q : StackPair) : Word :=
  match q with
  | .bc => joinBytes c.b c.c
  | .de => joinBytes c.d c.e
  | .hl => joinBytes c.h c.l
  | .af => joinBytes c.a c.f

/-- `RP2[p] <- v` (R13). -/
def Cpu.setRp2 (c : Cpu) (q : StackPair) (v : Word) : Cpu :=
  match q with
  | .bc => { c with b := hi v, c := lo v }
  | .de => { c with d := hi v, e := lo v }
  | .hl => { c with h := hi v, l := lo v }
  | .af => { c with a := hi v, f := lo v }

/-- `ii` (R13, R23). -/
def Cpu.ii (c : Cpu) (i : Index) : Word :=
  match i with
  | .ix => c.ix | .iy => c.iy

/-- `ii <- v` (R13). -/
def Cpu.setIi (c : Cpu) (i : Index) (v : Word) : Cpu :=
  match i with
  | .ix => { c with ix := v } | .iy => { c with iy := v }

/-- `EX AF,AF'` (R261). -/
def Cpu.swapAF (c : Cpu) : Cpu := { c with a := c.a2, f := c.f2, a2 := c.a, f2 := c.f }

/-- `EXX` (R262). -/
def Cpu.swapMain (c : Cpu) : Cpu :=
  { c with b := c.b2, c := c.c2, d := c.d2, e := c.e2, h := c.h2, l := c.l2
           b2 := c.b, c2 := c.c, d2 := c.d, e2 := c.e, h2 := c.h, l2 := c.l }

/-- `IncR(n)` (R18): the low seven bits advance, bit 7 stays. -/
def incR (r : Byte) (n : Nat) : Byte :=
  (r &&& 0x80) ||| BitVec.ofNat 8 ((r.toNat % 128 + n) % 128)

/-- `R8[k]` of the machine. -/
def State.reg (s : State) (r : Reg8) : Byte := s.cpu.reg r
/-- `R8[k] <- v`. -/
def State.setReg (s : State) (r : Reg8) (v : Byte) : State := { s with cpu := s.cpu.setReg r v }
/-- `RP[p]` of the machine. -/
def State.rp (s : State) (q : Pair) : Word := s.cpu.rp q
/-- `RP[p] <- v`. -/
def State.setRp (s : State) (q : Pair) (v : Word) : State := { s with cpu := s.cpu.setRp q v }
/-- `RP2[p]` of the machine. -/
def State.rp2 (s : State) (q : StackPair) : Word := s.cpu.rp2 q
/-- `RP2[p] <- v`. -/
def State.setRp2 (s : State) (q : StackPair) (v : Word) : State := { s with cpu := s.cpu.setRp2 q v }
/-- `BC`. -/
def State.bc (s : State) : Word := s.cpu.rp .bc
/-- `DE`. -/
def State.de (s : State) : Word := s.cpu.rp .de
/-- `HL`. -/
def State.hl (s : State) : Word := s.cpu.rp .hl
/-- `ii` of the machine. -/
def State.ii (s : State) (i : Index) : Word := s.cpu.ii i
/-- `ii <- v`. -/
def State.setIi (s : State) (i : Index) (v : Word) : State := { s with cpu := s.cpu.setIi i v }
/-- `F <- v`. -/
def State.setF (s : State) (v : Byte) : State := { s with cpu := { s.cpu with f := v } }
/-- `PC <- v`. -/
def State.setPc (s : State) (v : Word) : State := { s with cpu := { s.cpu with pc := v } }
/-- `SP <- v`. -/
def State.setSp (s : State) (v : Word) : State := { s with cpu := { s.cpu with sp := v } }
/-- `I <- v` (R28). -/
def State.setI (s : State) (v : Byte) : State := { s with cpu := { s.cpu with i := v } }
/-- `R <- v` (R28). -/
def State.setR (s : State) (v : Byte) : State := { s with cpu := { s.cpu with r := v } }
/-- `IFF1 <- v1; IFF2 <- v2` (R29). -/
def State.setIff (s : State) (v1 v2 : Bool) : State := { s with cpu := { s.cpu with iff1 := v1, iff2 := v2 } }
/-- `IM <- m` (R30). -/
def State.setIm (s : State) (m : IntMode) : State := { s with cpu := { s.cpu with im := m } }
/-- `halted <- v` (R31). -/
def State.setHalted (s : State) (v : Bool) : State := { s with cpu := { s.cpu with halted := v } }
/-- `ei_delay <- v` (R32). -/
def State.setEiDelay (s : State) (v : Bool) : State := { s with cpu := { s.cpu with eiDelay := v } }
/-- Exchange `AF` with `AF'`. -/
def State.swapAF (s : State) : State := { s with cpu := s.cpu.swapAF }
/-- Exchange `BC`, `DE`, `HL` with their shadows. -/
def State.swapMain (s : State) : State := { s with cpu := s.cpu.swapMain }
/-- The opcode table the next bytes are read in (log 8). -/
def State.setTable (s : State) (t : Table) : State := { s with table := t }
/-- `cycles <- n`: the cost the step returns (R13, R320). -/
def State.done (s : State) (n : Nat) : State := { s with cycles := n }

/-! ### Memory -/

/-- `MemRead(addr, 2)`: low byte first (R13). -/
def State.memRead16 (s : State) (addr : Word) : Word := joinBytes (s.busRead (addr + 1)) (s.busRead addr)

/-- `MemWrite(addr, 2, v)`: low byte first (R13). -/
def State.memWrite16 (s : State) (addr : Word) (v : Word) : State :=
  (s.busWrite addr (lo v)).busWrite (addr + 1) (hi v)

/-- `Push16(v)`: high byte first, at `SP - 1`, then the low byte at `SP - 2` (R13). -/
def State.push16 (s : State) (v : Word) : State :=
  ((s.busWrite (s.cpu.sp - 1) (hi v)).busWrite (s.cpu.sp - 2) (lo v)).setSp (s.cpu.sp - 2)

/-- The value `Pop16()` returns (R13). -/
def State.popValue (s : State) : Word := s.memRead16 s.cpu.sp

/-- The state `Pop16()` leaves (R13). -/
def State.popped (s : State) : State := s.setSp (s.cpu.sp + 2)

/-! ### The interrupt -/

/-- The address an accepted interrupt goes to, read in the state after the push (R511, R512, R513), and its cost. -/
def State.intTarget (s : State) (policy : IntModePolicy) (vector : Byte) : Word × Nat :=
  match policy with
  | .alwaysMode0 => ((vector &&& 0x38).setWidth 16, Config.intAckShort)
  | .perIM =>
    match s.cpu.im with
    | .im0 => ((vector &&& 0x38).setWidth 16, Config.intAckShort)
    | .im1 => (0x0038, Config.intAckShort)
    | .im2 => (s.memRead16 (joinBytes s.cpu.i vector), Config.intAckMode2)

/-- The state in which an interrupt that was accepted pushes `PC` (R510): awake, interrupts disabled, `R` advanced. -/
def State.ackInterrupt (s : State) : State :=
  { s with cpu := { s.cpu with halted := false, iff1 := false, iff2 := false, r := incR s.cpu.r 1 } }

/-- `raise_interrupt(vector)` under an `INT_MODE_POLICY` (R510, R514): the next state and the cycles charged, 0 where
the interrupt is refused and nothing changes (R522). -/
def State.raiseInterruptWith (s : State) (policy : IntModePolicy) (vector : Byte) : State × Nat :=
  if s.cpu.iff1 = false ∨ s.cpu.eiDelay = true then (s, 0)
  else
    let t := s.ackInterrupt.push16 s.cpu.pc
    let target := t.intTarget policy vector
    (t.setPc target.1, target.2)

/-- `raise_interrupt(vector)` (R510) under the policy of the configuration (R514). -/
def State.raiseInterrupt (s : State) (vector : Byte) : State × Nat :=
  s.raiseInterruptWith Config.intModePolicy vector

/-- The return from an interrupt, `RETI` and `RETN`: `PC <- Pop16()`, `IFF1 <- IFF2` (R434, R435, R515). -/
def State.returnFromInterrupt (s : State) : State :=
  (s.popped.setPc s.popValue).setIff s.cpu.iff2 s.cpu.iff2

end Sys2Proof.Machine
end

