-- ==== Sys2Proof/Machine/Operands.lean ====
section
/-! DEFINITION. Operand forms (R144, R161, R218, R353), conditions (R13), and the shapes that several instructions
share: the accumulator operations, increments, rotates, bit changes and block iterations. -/

namespace Sys2Proof

/-- What an index prefix without effect adds to the cost (R323). -/
def Pass.extra (p : Pass) : Nat :=
  match p with
  | .none => 0 | .dd | .fd => 4

/-- A condition of `JR cc,e` as a condition of `CC` (R423). -/
def JrCond.cond (cc : JrCond) : Cond :=
  match cc with
  | .nz => .nz | .z => .z | .nc => .nc | .c => .c

end Sys2Proof

namespace Sys2Proof.Machine

/-! ### Operand forms -/

/-- The address `(ii + sext_8(d)) mod 65536` of an indexed operand (R144). -/
def State.idxAddr (s : State) (i : Index) (d : Byte) : Word := s.ii i + sext8 d

/-- A half of an index register (R161). -/
def State.half (s : State) (i : Index) (h : Half) : Byte :=
  match h with
  | .hi => hi (s.ii i) | .lo => lo (s.ii i)

/-- Write a half of an index register; the other half stays (R161, R305). -/
def State.setHalf (s : State) (i : Index) (h : Half) (v : Byte) : State :=
  match h with
  | .hi => s.setIi i (joinBytes v (lo (s.ii i)))
  | .lo => s.setIi i (joinBytes (hi (s.ii i)) v)

/-- The source operand of a load into an index half: `R8` with codes 4 and 5 read as the halves (R218). -/
def State.xreg (s : State) (i : Index) (r : XReg8) : Byte :=
  match r with
  | .b => s.cpu.b | .c => s.cpu.c | .d => s.cpu.d | .e => s.cpu.e | .a => s.cpu.a
  | .xh => s.half i .hi | .xl => s.half i .lo

/-- The pair operand of `ADD ii,pp` (R353). -/
def State.ixPair (s : State) (i : Index) (q : IxPair) : Word :=
  match q with
  | .bc => s.bc | .de => s.de | .ii => s.ii i | .sp => s.cpu.sp

/-- Does `CC[c]` hold? (R13) -/
def State.holds (s : State) (cc : Cond) : Bool :=
  match cc with
  | .nz => !s.cpu.zf | .z => s.cpu.zf | .nc => !s.cpu.cf | .c => s.cpu.cf
  | .po => !s.cpu.pf | .pe => s.cpu.pf | .p => !s.cpu.sf | .m => s.cpu.sf

/-! ### The eight accumulator operations (R291 to R298) -/

/-- `ADD A,v` (R291). -/
def State.aluAdd (s : State) (v : Byte) : State :=
  let x := add8 s.cpu.a v false
  (s.setReg .a x.r).setF (addFlags x)

/-- `ADC A,v` (R292). -/
def State.aluAdc (s : State) (v : Byte) : State :=
  let x := add8 s.cpu.a v s.cpu.cf
  (s.setReg .a x.r).setF (addFlags x)

/-- `SUB v` (R293). -/
def State.aluSub (s : State) (v : Byte) : State :=
  let x := sub8 s.cpu.a v false
  (s.setReg .a x.r).setF (subFlags x)

/-- `SBC A,v` (R294). -/
def State.aluSbc (s : State) (v : Byte) : State :=
  let x := sub8 s.cpu.a v s.cpu.cf
  (s.setReg .a x.r).setF (subFlags x)

/-- `AND v` (R295). -/
def State.aluAnd (s : State) (v : Byte) : State :=
  (s.setReg .a (s.cpu.a &&& v)).setF (andFlags (s.cpu.a &&& v))

/-- `XOR v` (R296). -/
def State.aluXor (s : State) (v : Byte) : State :=
  (s.setReg .a (s.cpu.a ^^^ v)).setF (orFlags (s.cpu.a ^^^ v))

/-- `OR v` (R297). -/
def State.aluOr (s : State) (v : Byte) : State :=
  (s.setReg .a (s.cpu.a ||| v)).setF (orFlags (s.cpu.a ||| v))

/-- `CP v` (R298): `A` stays. -/
def State.aluCp (s : State) (v : Byte) : State := s.setF (cpFlags (sub8 s.cpu.a v false) v)

/-! ### Increment and decrement (R299 to R305) -/

/-- `INC r` (R299). -/
def State.incReg (s : State) (r : Reg8) : State :=
  (s.setReg r (s.reg r + 1)).setF (incFlags (s.reg r) (s.reg r + 1) s.cpu.cf)

/-- `DEC r` (R302). -/
def State.decReg (s : State) (r : Reg8) : State :=
  (s.setReg r (s.reg r - 1)).setF (decFlags (s.reg r) (s.reg r - 1) s.cpu.cf)

/-- `INC` of the memory byte at `addr` (R300, R301). -/
def State.incMem (s : State) (addr : Word) : State :=
  (s.busWrite addr (s.busRead addr + 1)).setF (incFlags (s.busRead addr) (s.busRead addr + 1) s.cpu.cf)

/-- `DEC` of the memory byte at `addr` (R303, R304). -/
def State.decMem (s : State) (addr : Word) : State :=
  (s.busWrite addr (s.busRead addr - 1)).setF (decFlags (s.busRead addr) (s.busRead addr - 1) s.cpu.cf)

/-- `INC` of an index half: no carry between the halves (R305). -/
def State.incHalf (s : State) (i : Index) (h : Half) : State :=
  (s.setHalf i h (s.half i h + 1)).setF (incFlags (s.half i h) (s.half i h + 1) s.cpu.cf)

/-- `DEC` of an index half (R305). -/
def State.decHalf (s : State) (i : Index) (h : Half) : State :=
  (s.setHalf i h (s.half i h - 1)).setF (decFlags (s.half i h) (s.half i h - 1) s.cpu.cf)

/-! ### Rotates and shifts (R370 to R384) -/

/-- `ROT[y]` (R142). -/
inductive Rot where
  | rlc | rrc | rl | rr | sla | sra | sll | srl
  deriving DecidableEq, Repr

/-- `128` where the bit is set: bit 7. -/
def topBit (c : Bool) : Byte := if c then 0x80 else 0

/-- `1` where the bit is set: bit 0. -/
def lowBit (c : Bool) : Byte := if c then 1 else 0

/-- The result `r` and the bit `c` shifted out, from the value and the old `CF` (R375 to R382). -/
def rotate (op : Rot) (v : Byte) (cf : Bool) : Byte × Bool :=
  match op with
  | .rlc => ((v <<< 1) + lowBit (bitOf v 7), bitOf v 7)
  | .rrc => ((v >>> 1) + topBit (bitOf v 0), bitOf v 0)
  | .rl => ((v <<< 1) + lowBit cf, bitOf v 7)
  | .rr => ((v >>> 1) + topBit cf, bitOf v 0)
  | .sla => (v <<< 1, bitOf v 7)
  | .sra => ((v >>> 1) + topBit (bitOf v 7), bitOf v 0)
  | .sll => ((v <<< 1) + 1, bitOf v 7)
  | .srl => (v >>> 1, bitOf v 0)

/-- `RLCA`, `RRCA`, `RLA`, `RRA` (R370 to R373). -/
def State.rotateAcc (s : State) (op : Rot) : State :=
  let x := rotate op s.cpu.a s.cpu.cf
  (s.setReg .a x.1).setF (accRotFlags s.cpu x.1 x.2)

/-- `ROT[y] r` (R374). -/
def State.rotateReg (s : State) (op : Rot) (r : Reg8) : State :=
  let x := rotate op (s.reg r) s.cpu.cf
  (s.setReg r x.1).setF (rotFlags x.1 x.2)

/-- `ROT[y]` of the memory byte at `addr` (R374). -/
def State.rotateMem (s : State) (op : Rot) (addr : Word) : State :=
  let x := rotate op (s.busRead addr) s.cpu.cf
  (s.busWrite addr x.1).setF (rotFlags x.1 x.2)

/-- `ROT[y] (ii+d),r`: the result also goes to the register (R163, R374). -/
def State.rotateMemReg (s : State) (op : Rot) (addr : Word) (r : Reg8) : State :=
  let x := rotate op (s.busRead addr) s.cpu.cf
  ((s.busWrite addr x.1).setReg r x.1).setF (rotFlags x.1 x.2)

/-- `RLD` (R383). -/
def State.rotateDigitLeft (s : State) : State :=
  let m := s.busRead s.hl
  let a := (s.cpu.a &&& 0xF0) + (m >>> 4)
  ((s.busWrite s.hl ((m <<< 4) + (s.cpu.a &&& 0x0F))).setReg .a a).setF (digitFlags a s.cpu.cf)

/-- `RRD` (R384). -/
def State.rotateDigitRight (s : State) : State :=
  let m := s.busRead s.hl
  let a := (s.cpu.a &&& 0xF0) + (m &&& 0x0F)
  ((s.busWrite s.hl ((s.cpu.a <<< 4) + (m >>> 4))).setReg .a a).setF (digitFlags a s.cpu.cf)

/-! ### Bits (R403 to R410) -/

/-- `v OR mask(b)` (R403). -/
def setBitOf (v : Byte) (b : Nat) : Byte := v ||| ((1 : Byte) <<< b)

/-- `v AND (255 - mask(b))` (R407). -/
def resBitOf (v : Byte) (b : Nat) : Byte := v &&& ~~~((1 : Byte) <<< b)

/-- `SET b` of the memory byte at `addr` (R404, R405). -/
def State.setBitMem (s : State) (addr : Word) (b : Nat) : State := s.busWrite addr (setBitOf (s.busRead addr) b)

/-- `RES b` of the memory byte at `addr` (R408, R409). -/
def State.resBitMem (s : State) (addr : Word) (b : Nat) : State := s.busWrite addr (resBitOf (s.busRead addr) b)

/-- `BIT b,(ii+d)` at the effective address `addr`: `YF` and `XF` are its bits 13 and 11 (R402). -/
def State.bitIndexed (s : State) (addr : Word) (b : Nat) : State :=
  s.setF (bitFlags (s.busRead addr) b (addr.getLsbD 13) (addr.getLsbD 11) s.cpu.cf)

/-! ### 16-bit arithmetic (R350 to R353) and `NEG` (R329) -/

/-- `ADD HL,v` (R350). -/
def State.addHl (s : State) (v : Word) : State :=
  let x := add16 s.hl v false
  (s.setRp .hl x.r).setF (add16Flags s.cpu x)

/-- `ADC HL,v` (R351). -/
def State.adcHl (s : State) (v : Word) : State :=
  let x := add16 s.hl v s.cpu.cf
  (s.setRp .hl x.r).setF (carry16Flags x false)

/-- `SBC HL,v` (R352). -/
def State.sbcHl (s : State) (v : Word) : State :=
  let x := sub16 s.hl v s.cpu.cf
  (s.setRp .hl x.r).setF (carry16Flags x true)

/-- `ADD ii,v` (R353). -/
def State.addIndex (s : State) (i : Index) (v : Word) : State :=
  let x := add16 (s.ii i) v false
  (s.setIi i x.r).setF (add16Flags s.cpu x)

/-- `NEG` (R329). -/
def State.negate (s : State) : State :=
  let x := sub8 0 s.cpu.a false
  (s.setReg .a x.r).setF (subFlags x)

/-! ### Exchange with the top of the stack (R263) -/

/-- The two writes of `EX (SP),HL`: the high byte to `SP + 1` first, then the low byte to `SP` (R263). -/
def State.exchangeTop (s : State) (v : Word) : State :=
  (s.busWrite (s.cpu.sp + 1) (hi v)).busWrite s.cpu.sp (lo v)

/-! ### Block iterations (R265 to R272, R456 to R463) -/

/-- The direction a block instruction moves its pointers in. -/
inductive Dir where
  | up | down
  deriving DecidableEq, Repr

/-- A pointer one byte further in direction `d`. -/
def Dir.advance (d : Dir) (v : Word) : Word :=
  match d with
  | .up => v + 1 | .down => v - 1

/-- A byte counter one further in direction `d`. -/
def Dir.advanceByte (d : Dir) (v : Byte) : Byte :=
  match d with
  | .up => v + 1 | .down => v - 1

/-- One iteration of `LDI`, `LDD` (R265, R267). -/
def State.blockLoad (s : State) (d : Dir) : State :=
  let t := s.busRead s.hl
  ((((s.busWrite s.de t).setRp .hl (d.advance s.hl)).setRp .de (d.advance s.de)).setRp .bc (s.bc - 1)).setF
    (ldBlockFlags s.cpu t (s.bc - 1))

/-- One iteration of `CPI`, `CPD` (R269, R271). -/
def State.blockCompare (s : State) (d : Dir) : State :=
  let t := s.busRead s.hl
  ((s.setRp .hl (d.advance s.hl)).setRp .bc (s.bc - 1)).setF (cpBlockFlags s.cpu t (s.bc - 1))

/-- One iteration of `INI`, `IND` (R456, R458): the port is the old `BC`. -/
def State.blockIn (s : State) (d : Dir) : State :=
  let v := s.ioRead s.bc
  let bn := s.cpu.b - 1
  (((s.drawn.busWrite s.hl v).setRp .hl (d.advance s.hl)).setReg .b bn).setF
    (ioBlockFlags v bn (v.toNat + (d.advanceByte s.cpu.c).toNat))

/-- One iteration of `OUTI`, `OUTD` (R460, R462): the port is `BC` with `B` already decremented; `k` takes `L` after
`HL` moved. -/
def State.blockOut (s : State) (d : Dir) : State :=
  let v := s.busRead s.hl
  let bn := s.cpu.b - 1
  (((s.ioWrite (joinBytes bn s.cpu.c) v).setReg .b bn).setRp .hl (d.advance s.hl)).setF
    (ioBlockFlags v bn (v.toNat + (lo (d.advance s.hl)).toNat))

/-- The end of one iteration of a repeating block instruction: go back to its first byte and cost 21, or go on and
cost 16 (R266). -/
def State.repeatIf (s : State) (again : Bool) : State :=
  if again then (s.setPc (s.cpu.pc - 2)).done 21 else s.done 16

/-- The repeat test of `LDIR`, `LDDR`: `BC != 0` (R266). -/
def State.repeatLoad (s : State) : State := s.repeatIf (decide (s.bc ≠ 0))

/-- The repeat test of `CPIR`, `CPDR`: `BC != 0 and ZF = 0` (R270). -/
def State.repeatCompare (s : State) : State := s.repeatIf (decide (s.bc ≠ 0) && !s.cpu.zf)

/-- The repeat test of `INIR`, `INDR`, `OTIR`, `OTDR`: `B != 0` (R457). -/
def State.repeatIo (s : State) : State := s.repeatIf (decide (s.cpu.b ≠ 0))

end Sys2Proof.Machine
end

