-- ==== Sys2Proof/Machine/Arith16.lean ====
section
/-! DEFINITION. The meanings of the instructions: 16-bit arithmetic (spec/45).
Each runs after the instruction's bytes have been fetched and `IncR` applied: `PC` is the address after it (R320). -/

namespace Sys2Proof.Machine

/-- `ADD HL,ss` (R350). -/
def execAddHlSs (q : Pair) (s : State) : Result :=
  .next ((s.addHl (s.rp q)).done 11)

/-- `INC ss` (R354). -/
def execIncSs (p : Pass) (q : Pair) (s : State) : Result :=
  .next ((s.setRp q (s.rp q + 1)).done (6 + p.extra))

/-- `DEC ss` (R355). -/
def execDecSs (p : Pass) (q : Pair) (s : State) : Result :=
  .next ((s.setRp q (s.rp q - 1)).done (6 + p.extra))

/-- `SBC HL,ss` (R352). -/
def execSbcHlSs (q : Pair) (s : State) : Result :=
  .next ((s.sbcHl (s.rp q)).done 15)

/-- `ADC HL,ss` (R351). -/
def execAdcHlSs (q : Pair) (s : State) : Result :=
  .next ((s.adcHl (s.rp q)).done 15)

/-- `ADD IX,pp` (R353). -/
def execAddIxPp (q : IxPair) (s : State) : Result :=
  .next ((s.addIndex .ix (s.ixPair .ix q)).done 15)

/-- `ADD IY,pp` (R353). -/
def execAddIyPp (q : IxPair) (s : State) : Result :=
  .next ((s.addIndex .iy (s.ixPair .iy q)).done 15)

/-- `INC IX` (R356). -/
def execIncIx (s : State) : Result :=
  .next ((s.setIi .ix (s.ii .ix + 1)).done 10)

/-- `DEC IX` (R357). -/
def execDecIx (s : State) : Result :=
  .next ((s.setIi .ix (s.ii .ix - 1)).done 10)

/-- `INC IY` (R356). -/
def execIncIy (s : State) : Result :=
  .next ((s.setIi .iy (s.ii .iy + 1)).done 10)

/-- `DEC IY` (R357). -/
def execDecIy (s : State) : Result :=
  .next ((s.setIi .iy (s.ii .iy - 1)).done 10)

end Sys2Proof.Machine
end

