-- ==== Sys2Proof/Machine/Arith8.lean ====
section
/-! DEFINITION. The meanings of the instructions: 8-bit arithmetic and logic (spec/43).
Each runs after the instruction's bytes have been fetched and `IncR` applied: `PC` is the address after it (R320). -/

namespace Sys2Proof.Machine

/-- `INC r` (R299). -/
def execIncR (p : Pass) (r : Reg8) (s : State) : Result :=
  .next ((s.incReg r).done (4 + p.extra))

/-- `DEC r` (R302). -/
def execDecR (p : Pass) (r : Reg8) (s : State) : Result :=
  .next ((s.decReg r).done (4 + p.extra))

/-- `ADD A,r` (R291). -/
def execAddAR (p : Pass) (r : Reg8) (s : State) : Result :=
  .next ((s.aluAdd (s.reg r)).done (4 + p.extra))

/-- `ADD A,n` (R291). -/
def execAddAN (p : Pass) (n : Byte) (s : State) : Result :=
  .next ((s.aluAdd n).done (7 + p.extra))

/-- `ADC A,r` (R292). -/
def execAdcAR (p : Pass) (r : Reg8) (s : State) : Result :=
  .next ((s.aluAdc (s.reg r)).done (4 + p.extra))

/-- `ADC A,n` (R292). -/
def execAdcAN (p : Pass) (n : Byte) (s : State) : Result :=
  .next ((s.aluAdc n).done (7 + p.extra))

/-- `SUB r` (R293). -/
def execSubR (p : Pass) (r : Reg8) (s : State) : Result :=
  .next ((s.aluSub (s.reg r)).done (4 + p.extra))

/-- `SUB n` (R293). -/
def execSubN (p : Pass) (n : Byte) (s : State) : Result :=
  .next ((s.aluSub n).done (7 + p.extra))

/-- `SBC A,r` (R294). -/
def execSbcAR (p : Pass) (r : Reg8) (s : State) : Result :=
  .next ((s.aluSbc (s.reg r)).done (4 + p.extra))

/-- `SBC A,n` (R294). -/
def execSbcAN (p : Pass) (n : Byte) (s : State) : Result :=
  .next ((s.aluSbc n).done (7 + p.extra))

/-- `AND r` (R295). -/
def execAndR (p : Pass) (r : Reg8) (s : State) : Result :=
  .next ((s.aluAnd (s.reg r)).done (4 + p.extra))

/-- `AND n` (R295). -/
def execAndN (p : Pass) (n : Byte) (s : State) : Result :=
  .next ((s.aluAnd n).done (7 + p.extra))

/-- `XOR r` (R296). -/
def execXorR (p : Pass) (r : Reg8) (s : State) : Result :=
  .next ((s.aluXor (s.reg r)).done (4 + p.extra))

/-- `XOR n` (R296). -/
def execXorN (p : Pass) (n : Byte) (s : State) : Result :=
  .next ((s.aluXor n).done (7 + p.extra))

/-- `OR r` (R297). -/
def execOrR (p : Pass) (r : Reg8) (s : State) : Result :=
  .next ((s.aluOr (s.reg r)).done (4 + p.extra))

/-- `OR n` (R297). -/
def execOrN (p : Pass) (n : Byte) (s : State) : Result :=
  .next ((s.aluOr n).done (7 + p.extra))

/-- `CP r` (R298). -/
def execCpR (p : Pass) (r : Reg8) (s : State) : Result :=
  .next ((s.aluCp (s.reg r)).done (4 + p.extra))

/-- `CP n` (R298). -/
def execCpN (p : Pass) (n : Byte) (s : State) : Result :=
  .next ((s.aluCp n).done (7 + p.extra))

/-- `INC (IX+d)` (R301). -/
def execIncIxd (d : Byte) (s : State) : Result :=
  .next ((s.incMem (s.idxAddr .ix d)).done 23)

/-- `DEC (IX+d)` (R304). -/
def execDecIxd (d : Byte) (s : State) : Result :=
  .next ((s.decMem (s.idxAddr .ix d)).done 23)

/-- `ADD A,(IX+d)` (R291). -/
def execAddAIxd (d : Byte) (s : State) : Result :=
  .next ((s.aluAdd (s.busRead (s.idxAddr .ix d))).done 19)

/-- `ADC A,(IX+d)` (R292). -/
def execAdcAIxd (d : Byte) (s : State) : Result :=
  .next ((s.aluAdc (s.busRead (s.idxAddr .ix d))).done 19)

/-- `SUB (IX+d)` (R293). -/
def execSubIxd (d : Byte) (s : State) : Result :=
  .next ((s.aluSub (s.busRead (s.idxAddr .ix d))).done 19)

/-- `SBC A,(IX+d)` (R294). -/
def execSbcAIxd (d : Byte) (s : State) : Result :=
  .next ((s.aluSbc (s.busRead (s.idxAddr .ix d))).done 19)

/-- `AND (IX+d)` (R295). -/
def execAndIxd (d : Byte) (s : State) : Result :=
  .next ((s.aluAnd (s.busRead (s.idxAddr .ix d))).done 19)

/-- `XOR (IX+d)` (R296). -/
def execXorIxd (d : Byte) (s : State) : Result :=
  .next ((s.aluXor (s.busRead (s.idxAddr .ix d))).done 19)

/-- `OR (IX+d)` (R297). -/
def execOrIxd (d : Byte) (s : State) : Result :=
  .next ((s.aluOr (s.busRead (s.idxAddr .ix d))).done 19)

/-- `CP (IX+d)` (R298). -/
def execCpIxd (d : Byte) (s : State) : Result :=
  .next ((s.aluCp (s.busRead (s.idxAddr .ix d))).done 19)

/-- `INC (IY+d)` (R301). -/
def execIncIyd (d : Byte) (s : State) : Result :=
  .next ((s.incMem (s.idxAddr .iy d)).done 23)

/-- `DEC (IY+d)` (R304). -/
def execDecIyd (d : Byte) (s : State) : Result :=
  .next ((s.decMem (s.idxAddr .iy d)).done 23)

/-- `ADD A,(IY+d)` (R291). -/
def execAddAIyd (d : Byte) (s : State) : Result :=
  .next ((s.aluAdd (s.busRead (s.idxAddr .iy d))).done 19)

/-- `ADC A,(IY+d)` (R292). -/
def execAdcAIyd (d : Byte) (s : State) : Result :=
  .next ((s.aluAdc (s.busRead (s.idxAddr .iy d))).done 19)

/-- `SUB (IY+d)` (R293). -/
def execSubIyd (d : Byte) (s : State) : Result :=
  .next ((s.aluSub (s.busRead (s.idxAddr .iy d))).done 19)

/-- `SBC A,(IY+d)` (R294). -/
def execSbcAIyd (d : Byte) (s : State) : Result :=
  .next ((s.aluSbc (s.busRead (s.idxAddr .iy d))).done 19)

/-- `AND (IY+d)` (R295). -/
def execAndIyd (d : Byte) (s : State) : Result :=
  .next ((s.aluAnd (s.busRead (s.idxAddr .iy d))).done 19)

/-- `XOR (IY+d)` (R296). -/
def execXorIyd (d : Byte) (s : State) : Result :=
  .next ((s.aluXor (s.busRead (s.idxAddr .iy d))).done 19)

/-- `OR (IY+d)` (R297). -/
def execOrIyd (d : Byte) (s : State) : Result :=
  .next ((s.aluOr (s.busRead (s.idxAddr .iy d))).done 19)

/-- `CP (IY+d)` (R298). -/
def execCpIyd (d : Byte) (s : State) : Result :=
  .next ((s.aluCp (s.busRead (s.idxAddr .iy d))).done 19)

/-- `INC (HL)` (R300). -/
def execIncHl (s : State) : Result :=
  .next ((s.incMem s.hl).done 11)

/-- `DEC (HL)` (R303). -/
def execDecHl (s : State) : Result :=
  .next ((s.decMem s.hl).done 11)

/-- `ADD A,(HL)` (R291). -/
def execAddAHl (s : State) : Result :=
  .next ((s.aluAdd (s.busRead s.hl)).done 7)

/-- `ADC A,(HL)` (R292). -/
def execAdcAHl (s : State) : Result :=
  .next ((s.aluAdc (s.busRead s.hl)).done 7)

/-- `SUB (HL)` (R293). -/
def execSubHl (s : State) : Result :=
  .next ((s.aluSub (s.busRead s.hl)).done 7)

/-- `SBC A,(HL)` (R294). -/
def execSbcAHl (s : State) : Result :=
  .next ((s.aluSbc (s.busRead s.hl)).done 7)

/-- `AND (HL)` (R295). -/
def execAndHl (s : State) : Result :=
  .next ((s.aluAnd (s.busRead s.hl)).done 7)

/-- `XOR (HL)` (R296). -/
def execXorHl (s : State) : Result :=
  .next ((s.aluXor (s.busRead s.hl)).done 7)

/-- `OR (HL)` (R297). -/
def execOrHl (s : State) : Result :=
  .next ((s.aluOr (s.busRead s.hl)).done 7)

/-- `CP (HL)` (R298). -/
def execCpHl (s : State) : Result :=
  .next ((s.aluCp (s.busRead s.hl)).done 7)

/-- `INC IXH` (R305). -/
def execIncIxh (s : State) : Result :=
  .next ((s.incHalf .ix .hi).done 8)

/-- `DEC IXH` (R305). -/
def execDecIxh (s : State) : Result :=
  .next ((s.decHalf .ix .hi).done 8)

/-- `INC IXL` (R305). -/
def execIncIxl (s : State) : Result :=
  .next ((s.incHalf .ix .lo).done 8)

/-- `DEC IXL` (R305). -/
def execDecIxl (s : State) : Result :=
  .next ((s.decHalf .ix .lo).done 8)

/-- `ADD A,IXH` (R291). -/
def execAddAIxh (s : State) : Result :=
  .next ((s.aluAdd (s.half .ix .hi)).done 8)

/-- `ADD A,IXL` (R291). -/
def execAddAIxl (s : State) : Result :=
  .next ((s.aluAdd (s.half .ix .lo)).done 8)

/-- `ADC A,IXH` (R292). -/
def execAdcAIxh (s : State) : Result :=
  .next ((s.aluAdc (s.half .ix .hi)).done 8)

/-- `ADC A,IXL` (R292). -/
def execAdcAIxl (s : State) : Result :=
  .next ((s.aluAdc (s.half .ix .lo)).done 8)

/-- `SUB IXH` (R293). -/
def execSubIxh (s : State) : Result :=
  .next ((s.aluSub (s.half .ix .hi)).done 8)

/-- `SUB IXL` (R293). -/
def execSubIxl (s : State) : Result :=
  .next ((s.aluSub (s.half .ix .lo)).done 8)

/-- `SBC A,IXH` (R294). -/
def execSbcAIxh (s : State) : Result :=
  .next ((s.aluSbc (s.half .ix .hi)).done 8)

/-- `SBC A,IXL` (R294). -/
def execSbcAIxl (s : State) : Result :=
  .next ((s.aluSbc (s.half .ix .lo)).done 8)

/-- `AND IXH` (R295). -/
def execAndIxh (s : State) : Result :=
  .next ((s.aluAnd (s.half .ix .hi)).done 8)

/-- `AND IXL` (R295). -/
def execAndIxl (s : State) : Result :=
  .next ((s.aluAnd (s.half .ix .lo)).done 8)

/-- `XOR IXH` (R296). -/
def execXorIxh (s : State) : Result :=
  .next ((s.aluXor (s.half .ix .hi)).done 8)

/-- `XOR IXL` (R296). -/
def execXorIxl (s : State) : Result :=
  .next ((s.aluXor (s.half .ix .lo)).done 8)

/-- `OR IXH` (R297). -/
def execOrIxh (s : State) : Result :=
  .next ((s.aluOr (s.half .ix .hi)).done 8)

/-- `OR IXL` (R297). -/
def execOrIxl (s : State) : Result :=
  .next ((s.aluOr (s.half .ix .lo)).done 8)

/-- `CP IXH` (R298). -/
def execCpIxh (s : State) : Result :=
  .next ((s.aluCp (s.half .ix .hi)).done 8)

/-- `CP IXL` (R298). -/
def execCpIxl (s : State) : Result :=
  .next ((s.aluCp (s.half .ix .lo)).done 8)

/-- `INC IYH` (R305). -/
def execIncIyh (s : State) : Result :=
  .next ((s.incHalf .iy .hi).done 8)

/-- `DEC IYH` (R305). -/
def execDecIyh (s : State) : Result :=
  .next ((s.decHalf .iy .hi).done 8)

/-- `INC IYL` (R305). -/
def execIncIyl (s : State) : Result :=
  .next ((s.incHalf .iy .lo).done 8)

/-- `DEC IYL` (R305). -/
def execDecIyl (s : State) : Result :=
  .next ((s.decHalf .iy .lo).done 8)

/-- `ADD A,IYH` (R291). -/
def execAddAIyh (s : State) : Result :=
  .next ((s.aluAdd (s.half .iy .hi)).done 8)

/-- `ADD A,IYL` (R291). -/
def execAddAIyl (s : State) : Result :=
  .next ((s.aluAdd (s.half .iy .lo)).done 8)

/-- `ADC A,IYH` (R292). -/
def execAdcAIyh (s : State) : Result :=
  .next ((s.aluAdc (s.half .iy .hi)).done 8)

/-- `ADC A,IYL` (R292). -/
def execAdcAIyl (s : State) : Result :=
  .next ((s.aluAdc (s.half .iy .lo)).done 8)

/-- `SUB IYH` (R293). -/
def execSubIyh (s : State) : Result :=
  .next ((s.aluSub (s.half .iy .hi)).done 8)

/-- `SUB IYL` (R293). -/
def execSubIyl (s : State) : Result :=
  .next ((s.aluSub (s.half .iy .lo)).done 8)

/-- `SBC A,IYH` (R294). -/
def execSbcAIyh (s : State) : Result :=
  .next ((s.aluSbc (s.half .iy .hi)).done 8)

/-- `SBC A,IYL` (R294). -/
def execSbcAIyl (s : State) : Result :=
  .next ((s.aluSbc (s.half .iy .lo)).done 8)

/-- `AND IYH` (R295). -/
def execAndIyh (s : State) : Result :=
  .next ((s.aluAnd (s.half .iy .hi)).done 8)

/-- `AND IYL` (R295). -/
def execAndIyl (s : State) : Result :=
  .next ((s.aluAnd (s.half .iy .lo)).done 8)

/-- `XOR IYH` (R296). -/
def execXorIyh (s : State) : Result :=
  .next ((s.aluXor (s.half .iy .hi)).done 8)

/-- `XOR IYL` (R296). -/
def execXorIyl (s : State) : Result :=
  .next ((s.aluXor (s.half .iy .lo)).done 8)

/-- `OR IYH` (R297). -/
def execOrIyh (s : State) : Result :=
  .next ((s.aluOr (s.half .iy .hi)).done 8)

/-- `OR IYL` (R297). -/
def execOrIyl (s : State) : Result :=
  .next ((s.aluOr (s.half .iy .lo)).done 8)

/-- `CP IYH` (R298). -/
def execCpIyh (s : State) : Result :=
  .next ((s.aluCp (s.half .iy .hi)).done 8)

/-- `CP IYL` (R298). -/
def execCpIyl (s : State) : Result :=
  .next ((s.aluCp (s.half .iy .lo)).done 8)

end Sys2Proof.Machine
end

