-- ==== Sys2Proof/Machine/BitOps.lean ====
section
/-! DEFINITION. The meanings of the instructions: bit test, set and reset (spec/47).
Each runs after the instruction's bytes have been fetched and `IncR` applied: `PC` is the address after it (R320). -/

namespace Sys2Proof.Machine

/-- `BIT b,r` (R400). -/
def execBitR (b : Code3) (r : Reg8) (s : State) : Result :=
  .next ((s.setF (bitFlags (s.reg r) b.val (bitOf (s.reg r) 5) (bitOf (s.reg r) 3) s.cpu.cf)).done 8)

/-- `BIT b,(HL)` (R401). `YF` and `XF` are free values (log 14). -/
def execBitHl (b : Code3) (s : State) : Result :=
  .next
    ((s.drawn.setF (bitFlags (s.busRead s.hl) b.val (Config.drawYF s.draws) (Config.drawXF s.draws) s.cpu.cf)).done 12)

/-- `RES b,r` (R407). -/
def execResR (b : Code3) (r : Reg8) (s : State) : Result :=
  .next ((s.setReg r (resBitOf (s.reg r) b.val)).done 8)

/-- `RES b,(HL)` (R408). -/
def execResHl (b : Code3) (s : State) : Result :=
  .next ((s.resBitMem s.hl b.val).done 15)

/-- `SET b,r` (R403). -/
def execSetR (b : Code3) (r : Reg8) (s : State) : Result :=
  .next ((s.setReg r (setBitOf (s.reg r) b.val)).done 8)

/-- `SET b,(HL)` (R404). -/
def execSetHl (b : Code3) (s : State) : Result :=
  .next ((s.setBitMem s.hl b.val).done 15)

/-- BIT b,(IX+d); `z` is the opcode field, 6 in the documented encoding (R402). -/
def execBitIxd (b : Code3) (d : Byte) (s : State) : Result :=
  .next ((s.bitIndexed (s.idxAddr .ix d) b.val).done 20)

/-- `RES b,(IX+d)` (R409). -/
def execResIxd (b : Code3) (d : Byte) (s : State) : Result :=
  .next ((s.resBitMem (s.idxAddr .ix d) b.val).done 23)

/-- `RES b,(IX+d),r` (R410). -/
def execResIxdR (b : Code3) (d : Byte) (r : Reg8) (s : State) : Result :=
  .next (((s.resBitMem (s.idxAddr .ix d) b.val).setReg r (resBitOf (s.busRead (s.idxAddr .ix d)) b.val)).done 23)

/-- `SET b,(IX+d)` (R405). -/
def execSetIxd (b : Code3) (d : Byte) (s : State) : Result :=
  .next ((s.setBitMem (s.idxAddr .ix d) b.val).done 23)

/-- `SET b,(IX+d),r` (R406). -/
def execSetIxdR (b : Code3) (d : Byte) (r : Reg8) (s : State) : Result :=
  .next (((s.setBitMem (s.idxAddr .ix d) b.val).setReg r (setBitOf (s.busRead (s.idxAddr .ix d)) b.val)).done 23)

/-- BIT b,(IY+d); `z` is the opcode field, 6 in the documented encoding (R402). -/
def execBitIyd (b : Code3) (d : Byte) (s : State) : Result :=
  .next ((s.bitIndexed (s.idxAddr .iy d) b.val).done 20)

/-- `RES b,(IY+d)` (R409). -/
def execResIyd (b : Code3) (d : Byte) (s : State) : Result :=
  .next ((s.resBitMem (s.idxAddr .iy d) b.val).done 23)

/-- `RES b,(IY+d),r` (R410). -/
def execResIydR (b : Code3) (d : Byte) (r : Reg8) (s : State) : Result :=
  .next (((s.resBitMem (s.idxAddr .iy d) b.val).setReg r (resBitOf (s.busRead (s.idxAddr .iy d)) b.val)).done 23)

/-- `SET b,(IY+d)` (R405). -/
def execSetIyd (b : Code3) (d : Byte) (s : State) : Result :=
  .next ((s.setBitMem (s.idxAddr .iy d) b.val).done 23)

/-- `SET b,(IY+d),r` (R406). -/
def execSetIydR (b : Code3) (d : Byte) (r : Reg8) (s : State) : Result :=
  .next (((s.setBitMem (s.idxAddr .iy d) b.val).setReg r (setBitOf (s.busRead (s.idxAddr .iy d)) b.val)).done 23)

end Sys2Proof.Machine
end

