-- ==== Sys2Proof/Machine/Control.lean ====
section
/-! DEFINITION. The meanings of the instructions: general-purpose arithmetic and CPU control (spec/44).
Each runs after the instruction's bytes have been fetched and `IncR` applied: `PC` is the address after it (R320). -/

namespace Sys2Proof.Machine

/-- `NOP` (R324). -/
def execNop (p : Pass) (s : State) : Result :=
  .next (s.done (4 + p.extra))

/-- `DAA` (R327). -/
def execDaa (p : Pass) (s : State) : Result :=
  .next (((s.setReg .a (daaResult s.cpu)).setF (daaFlags s.cpu)).done (4 + p.extra))

/-- `CPL` (R328). -/
def execCpl (p : Pass) (s : State) : Result :=
  .next (((s.setReg .a (s.cpu.a ^^^ 0xFF)).setF (cplFlags s.cpu (s.cpu.a ^^^ 0xFF))).done (4 + p.extra))

/-- `SCF` (R325). -/
def execScf (p : Pass) (s : State) : Result :=
  .next ((s.setF (scfFlags s.cpu)).done (4 + p.extra))

/-- `CCF` (R326). -/
def execCcf (p : Pass) (s : State) : Result :=
  .next ((s.setF (ccfFlags s.cpu)).done (4 + p.extra))

/-- `HALT` (R331). -/
def execHalt (p : Pass) (s : State) : Result :=
  .next ((s.setHalted true).done (4 + p.extra))

/-- `DI` (R332). -/
def execDi (p : Pass) (s : State) : Result :=
  .next (((s.setIff false false).setEiDelay false).done (4 + p.extra))

/-- `EI` (R333). -/
def execEi (p : Pass) (s : State) : Result :=
  .next (((s.setIff true true).setEiDelay true).done (4 + p.extra))

/-- NEG; `y` is the opcode field that tells the documented encoding (0) from its seven copies (R329). -/
def execNeg (s : State) : Result :=
  .next (s.negate.done 8)

/-- IM 0; `y` in 0, 1, 4, 5 is the opcode field (R330). -/
def execIm0 (s : State) : Result :=
  .next ((s.setIm .im0).done 8)

/-- IM 1; `y` in 2, 6 is the opcode field (R330). -/
def execIm1 (s : State) : Result :=
  .next ((s.setIm .im1).done 8)

/-- IM 2; `y` in 3, 7 is the opcode field (R330). -/
def execIm2 (s : State) : Result :=
  .next ((s.setIm .im2).done 8)

/-- an ED opcode that R147 does not assign (R322). -/
def execNopEd (s : State) : Result :=
  .next (s.done 8)

/-- a lone DD prefix before a byte DD (R152). -/
def execAloneDdDd (s : State) : Result :=
  .next (s.done 4)

/-- a lone DD prefix before a byte ED (R152). -/
def execAloneDdEd (s : State) : Result :=
  .next (s.done 4)

/-- a lone DD prefix before a byte FD (R152). -/
def execAloneDdFd (s : State) : Result :=
  .next (s.done 4)

/-- a lone FD prefix before a byte DD (R152). -/
def execAloneFdDd (s : State) : Result :=
  .next (s.done 4)

/-- a lone FD prefix before a byte ED (R152). -/
def execAloneFdEd (s : State) : Result :=
  .next (s.done 4)

/-- a lone FD prefix before a byte FD (R152). -/
def execAloneFdFd (s : State) : Result :=
  .next (s.done 4)

end Sys2Proof.Machine
end

