-- ==== Sys2Proof/Machine/ExchangeBlock.lean ====
section
/-! DEFINITION. The meanings of the instructions: exchanges, block transfer, block search (spec/42).
Each runs after the instruction's bytes have been fetched and `IncR` applied: `PC` is the address after it (R320). -/

namespace Sys2Proof.Machine

/-- `EX AF,AF'` (R261). -/
def execExAfAf (p : Pass) (s : State) : Result :=
  .next (s.swapAF.done (4 + p.extra))

/-- `EXX` (R262). -/
def execExx (p : Pass) (s : State) : Result :=
  .next (s.swapMain.done (4 + p.extra))

/-- `EX DE,HL` (R260). -/
def execExDeHl (p : Pass) (s : State) : Result :=
  .next (((s.setRp .de s.hl).setRp .hl s.de).done (4 + p.extra))

/-- `EX (SP),HL` (R263). -/
def execExSpHl (s : State) : Result :=
  .next (((s.exchangeTop s.hl).setRp .hl (s.memRead16 s.cpu.sp)).done 19)

/-- `LDI` (R265). -/
def execLdi (s : State) : Result :=
  .next ((s.blockLoad .up).done 16)

/-- `CPI` (R269). -/
def execCpi (s : State) : Result :=
  .next ((s.blockCompare .up).done 16)

/-- `LDD` (R267). -/
def execLdd (s : State) : Result :=
  .next ((s.blockLoad .down).done 16)

/-- `CPD` (R271). -/
def execCpd (s : State) : Result :=
  .next ((s.blockCompare .down).done 16)

/-- `LDIR` (R266). -/
def execLdir (s : State) : Result :=
  .next ((s.blockLoad .up).repeatLoad)

/-- `CPIR` (R270). -/
def execCpir (s : State) : Result :=
  .next ((s.blockCompare .up).repeatCompare)

/-- `LDDR` (R268). -/
def execLddr (s : State) : Result :=
  .next ((s.blockLoad .down).repeatLoad)

/-- `CPDR` (R272). -/
def execCpdr (s : State) : Result :=
  .next ((s.blockCompare .down).repeatCompare)

/-- `EX (SP),IX` (R264). -/
def execExSpIx (s : State) : Result :=
  .next (((s.exchangeTop (s.ii .ix)).setIi .ix (s.memRead16 s.cpu.sp)).done 23)

/-- `EX (SP),IY` (R264). -/
def execExSpIy (s : State) : Result :=
  .next (((s.exchangeTop (s.ii .iy)).setIi .iy (s.memRead16 s.cpu.sp)).done 23)

end Sys2Proof.Machine
end

