-- ==== Sys2Proof/Machine/Io.lean ====
section
/-! DEFINITION. The meanings of the instructions: input and output (spec/49).
Each runs after the instruction's bytes have been fetched and `IncR` applied: `PC` is the address after it (R320). -/

namespace Sys2Proof.Machine

/-- `OUT (n),A` (R453). -/
def execOutNA (p : Pass) (n : Byte) (s : State) : Result :=
  .next ((s.ioWrite (joinBytes s.cpu.a n) s.cpu.a).done (11 + p.extra))

/-- `IN A,(n)` (R450). The byte is a free value (log 13). -/
def execInAN (p : Pass) (n : Byte) (s : State) : Result :=
  .next ((s.drawn.setReg .a (s.ioRead (joinBytes s.cpu.a n))).done (11 + p.extra))

/-- `IN r,(C)` (R451). The byte is a free value (log 13). -/
def execInRC (r : Reg8) (s : State) : Result :=
  .next (((s.drawn.setReg r (s.ioRead s.bc)).setF (inFlags (s.ioRead s.bc) s.cpu.cf)).done 12)

/-- `OUT (C),r` (R454). -/
def execOutCR (r : Reg8) (s : State) : Result :=
  .next ((s.ioWrite s.bc (s.reg r)).done 12)

/-- `IN (C)` (R452). The byte is a free value (log 13). -/
def execInC (s : State) : Result :=
  .next ((s.drawn.setF (inFlags (s.ioRead s.bc) s.cpu.cf)).done 12)

/-- `OUT (C),0` (R455). -/
def execOutC0 (s : State) : Result :=
  .next ((s.ioWrite s.bc 0x00).done 12)

/-- `INI` (R456). The byte is a free value (log 13). -/
def execIni (s : State) : Result :=
  .next ((s.blockIn .up).done 16)

/-- `OUTI` (R460). -/
def execOuti (s : State) : Result :=
  .next ((s.blockOut .up).done 16)

/-- `IND` (R458). The byte is a free value (log 13). -/
def execInd (s : State) : Result :=
  .next ((s.blockIn .down).done 16)

/-- `OUTD` (R462). -/
def execOutd (s : State) : Result :=
  .next ((s.blockOut .down).done 16)

/-- `INIR` (R457). The byte is a free value (log 13). -/
def execInir (s : State) : Result :=
  .next ((s.blockIn .up).repeatIo)

/-- `OTIR` (R461). -/
def execOtir (s : State) : Result :=
  .next ((s.blockOut .up).repeatIo)

/-- `INDR` (R459). The byte is a free value (log 13). -/
def execIndr (s : State) : Result :=
  .next ((s.blockIn .down).repeatIo)

/-- `OTDR` (R463). -/
def execOtdr (s : State) : Result :=
  .next ((s.blockOut .down).repeatIo)

end Sys2Proof.Machine
end

