-- ==== Sys2Proof/Machine/Jump.lean ====
section
/-! DEFINITION. The meanings of the instructions: jumps, calls, returns, restarts (spec/48).
Each runs after the instruction's bytes have been fetched and `IncR` applied: `PC` is the address after it (R320). -/

namespace Sys2Proof.Machine

/-- `DJNZ e` (R426). -/
def execDjnz (p : Pass) (e : Byte) (s : State) : Result :=
  if s.cpu.b - 1 ≠ 0 then .next (((s.setReg .b (s.cpu.b - 1)).setPc (s.cpu.pc + sext8 e)).done (13 + p.extra))
  else .next ((s.setReg .b (s.cpu.b - 1)).done (8 + p.extra))

/-- `JR e` (R422). -/
def execJrE (p : Pass) (e : Byte) (s : State) : Result :=
  .next ((s.setPc (s.cpu.pc + sext8 e)).done (12 + p.extra))

/-- `JR cc,e` (R423). -/
def execJrCcE (p : Pass) (cc : JrCond) (e : Byte) (s : State) : Result :=
  if s.holds cc.cond then .next ((s.setPc (s.cpu.pc + sext8 e)).done (12 + p.extra))
  else .next (s.done (7 + p.extra))

/-- `RET cc` (R433). -/
def execRetCc (p : Pass) (cc : Cond) (s : State) : Result :=
  if s.holds cc then .next ((s.popped.setPc s.popValue).done (11 + p.extra))
  else .next (s.done (5 + p.extra))

/-- `RET` (R432). -/
def execRet (p : Pass) (s : State) : Result :=
  .next ((s.popped.setPc s.popValue).done (10 + p.extra))

/-- `JP cc,nn` (R421). -/
def execJpCcNn (p : Pass) (cc : Cond) (nn : Word) (s : State) : Result :=
  .next ((if s.holds cc then s.setPc nn else s).done (10 + p.extra))

/-- `JP nn` (R420). -/
def execJpNn (p : Pass) (nn : Word) (s : State) : Result :=
  .next ((s.setPc nn).done (10 + p.extra))

/-- `CALL cc,nn` (R431). -/
def execCallCcNn (p : Pass) (cc : Cond) (nn : Word) (s : State) : Result :=
  if s.holds cc then .next (((s.push16 s.cpu.pc).setPc nn).done (17 + p.extra))
  else .next (s.done (10 + p.extra))

/-- `CALL nn` (R430). -/
def execCallNn (p : Pass) (nn : Word) (s : State) : Result :=
  .next (((s.push16 s.cpu.pc).setPc nn).done (17 + p.extra))

/-- `RST 8*t` (R436). -/
def execRst (p : Pass) (t : Code3) (s : State) : Result :=
  .next (((s.push16 s.cpu.pc).setPc (BitVec.ofNat 16 (8 * t.val))).done (11 + p.extra))

/-- RETN; `y` (not 1) is the opcode field, 0 in the documented encoding (R435). -/
def execRetn (s : State) : Result :=
  .next (s.returnFromInterrupt.done 14)

/-- `JP (HL)` (R424). -/
def execJpHl (s : State) : Result :=
  .next ((s.setPc s.hl).done 4)

/-- `RETI` (R434). -/
def execReti (s : State) : Result :=
  .next (s.returnFromInterrupt.done 14)

/-- `JP (IX)` (R425). -/
def execJpIx (s : State) : Result :=
  .next ((s.setPc (s.ii .ix)).done 8)

/-- `JP (IY)` (R425). -/
def execJpIy (s : State) : Result :=
  .next ((s.setPc (s.ii .iy)).done 8)

end Sys2Proof.Machine
end

