-- ==== Sys2Proof/Machine/Load16.lean ====
section
/-! DEFINITION. The meanings of the instructions: 16-bit loads, PUSH and POP (spec/41).
Each runs after the instruction's bytes have been fetched and `IncR` applied: `PC` is the address after it (R320). -/

namespace Sys2Proof.Machine

/-- `LD dd,nn` (R230). -/
def execLdDdNn (p : Pass) (q : Pair) (nn : Word) (s : State) : Result :=
  .next ((s.setRp q nn).done (10 + p.extra))

/-- `LD (nn),HL` (R235). -/
def execLdNnHl (nn : Word) (s : State) : Result :=
  .next ((s.memWrite16 nn s.hl).done 16)

/-- `LD HL,(nn)` (R232). -/
def execLdHlNn (nn : Word) (s : State) : Result :=
  .next ((s.setRp .hl (s.memRead16 nn)).done 16)

/-- `POP qq` (R242). -/
def execPopQq (p : Pass) (q : StackPair) (s : State) : Result :=
  .next ((s.popped.setRp2 q s.popValue).done (10 + p.extra))

/-- `PUSH qq` (R240). -/
def execPushQq (p : Pass) (q : StackPair) (s : State) : Result :=
  .next ((s.push16 (s.rp2 q)).done (11 + p.extra))

/-- `LD (nn),dd` (R236). -/
def execLdMemDd (q : Pair) (nn : Word) (s : State) : Result :=
  .next ((s.memWrite16 nn (s.rp q)).done 20)

/-- `LD dd,(nn)` (R233). -/
def execLdDdMem (q : Pair) (nn : Word) (s : State) : Result :=
  .next ((s.setRp q (s.memRead16 nn)).done 20)

/-- `LD IX,nn` (R231). -/
def execLdIxNn (nn : Word) (s : State) : Result :=
  .next ((s.setIi .ix nn).done 14)

/-- `LD (nn),IX` (R237). -/
def execLdMemIx (nn : Word) (s : State) : Result :=
  .next ((s.memWrite16 nn (s.ii .ix)).done 20)

/-- `LD IX,(nn)` (R234). -/
def execLdIxMem (nn : Word) (s : State) : Result :=
  .next ((s.setIi .ix (s.memRead16 nn)).done 20)

/-- `LD IY,nn` (R231). -/
def execLdIyNn (nn : Word) (s : State) : Result :=
  .next ((s.setIi .iy nn).done 14)

/-- `LD (nn),IY` (R237). -/
def execLdMemIy (nn : Word) (s : State) : Result :=
  .next ((s.memWrite16 nn (s.ii .iy)).done 20)

/-- `LD IY,(nn)` (R234). -/
def execLdIyMem (nn : Word) (s : State) : Result :=
  .next ((s.setIi .iy (s.memRead16 nn)).done 20)

/-- `LD SP,HL` (R238). -/
def execLdSpHl (s : State) : Result :=
  .next ((s.setRp .sp s.hl).done 6)

/-- `POP IX` (R243). -/
def execPopIx (s : State) : Result :=
  .next ((s.popped.setIi .ix s.popValue).done 14)

/-- `PUSH IX` (R241). -/
def execPushIx (s : State) : Result :=
  .next ((s.push16 (s.ii .ix)).done 15)

/-- `LD SP,IX` (R239). -/
def execLdSpIx (s : State) : Result :=
  .next ((s.setRp .sp (s.ii .ix)).done 10)

/-- `POP IY` (R243). -/
def execPopIy (s : State) : Result :=
  .next ((s.popped.setIi .iy s.popValue).done 14)

/-- `PUSH IY` (R241). -/
def execPushIy (s : State) : Result :=
  .next ((s.push16 (s.ii .iy)).done 15)

/-- `LD SP,IY` (R239). -/
def execLdSpIy (s : State) : Result :=
  .next ((s.setRp .sp (s.ii .iy)).done 10)

end Sys2Proof.Machine
end

