-- ==== Sys2Proof/Machine/Load8.lean ====
section
/-! DEFINITION. The meanings of the instructions: 8-bit loads (spec/40).
Each runs after the instruction's bytes have been fetched and `IncR` applied: `PC` is the address after it (R320). -/

namespace Sys2Proof.Machine

/-- `LD (BC),A` (R211). -/
def execLdBcA (p : Pass) (s : State) : Result :=
  .next ((s.busWrite s.bc s.cpu.a).done (7 + p.extra))

/-- `LD (DE),A` (R212). -/
def execLdDeA (p : Pass) (s : State) : Result :=
  .next ((s.busWrite s.de s.cpu.a).done (7 + p.extra))

/-- `LD (nn),A` (R213). -/
def execLdNnA (p : Pass) (nn : Word) (s : State) : Result :=
  .next ((s.busWrite nn s.cpu.a).done (13 + p.extra))

/-- `LD A,(BC)` (R208). -/
def execLdABc (p : Pass) (s : State) : Result :=
  .next ((s.setReg .a (s.busRead s.bc)).done (7 + p.extra))

/-- `LD A,(DE)` (R209). -/
def execLdADe (p : Pass) (s : State) : Result :=
  .next ((s.setReg .a (s.busRead s.de)).done (7 + p.extra))

/-- `LD A,(nn)` (R210). -/
def execLdANn (p : Pass) (nn : Word) (s : State) : Result :=
  .next ((s.setReg .a (s.busRead nn)).done (13 + p.extra))

/-- `LD r,n` (R201). -/
def execLdRN (p : Pass) (r : Reg8) (n : Byte) (s : State) : Result :=
  .next ((s.setReg r n).done (7 + p.extra))

/-- `LD (HL),n` (R206). -/
def execLdHlN (n : Byte) (s : State) : Result :=
  .next ((s.busWrite s.hl n).done 10)

/-- `LD r,r'` (R200). -/
def execLdRR (p : Pass) (dst : Reg8) (r : Reg8) (s : State) : Result :=
  .next ((s.setReg dst (s.reg r)).done (4 + p.extra))

/-- `LD r,(HL)` (R202). -/
def execLdRHl (r : Reg8) (s : State) : Result :=
  .next ((s.setReg r (s.busRead s.hl)).done 7)

/-- `LD (HL),r` (R204). -/
def execLdHlR (r : Reg8) (s : State) : Result :=
  .next ((s.busWrite s.hl (s.reg r)).done 7)

/-- `LD IXH,n` (R219). -/
def execLdIxhN (n : Byte) (s : State) : Result :=
  .next ((s.setHalf .ix .hi n).done 11)

/-- `LD IXL,n` (R219). -/
def execLdIxlN (n : Byte) (s : State) : Result :=
  .next ((s.setHalf .ix .lo n).done 11)

/-- `LD (IX+d),n` (R207). -/
def execLdIxdN (d : Byte) (n : Byte) (s : State) : Result :=
  .next ((s.busWrite (s.idxAddr .ix d) n).done 19)

/-- `LD r,(IX+d)` (R203). -/
def execLdRIxd (r : Reg8) (d : Byte) (s : State) : Result :=
  .next ((s.setReg r (s.busRead (s.idxAddr .ix d))).done 19)

/-- `LD (IX+d),r` (R205). -/
def execLdIxdR (r : Reg8) (d : Byte) (s : State) : Result :=
  .next ((s.busWrite (s.idxAddr .ix d) (s.reg r)).done 19)

/-- LD IXH,r' and LD IXL,r' (R218). -/
def execLdIxHalfR (h : Half) (r : XReg8) (s : State) : Result :=
  .next ((s.setHalf .ix h (s.xreg .ix r)).done 8)

/-- LD r,IXH and LD r,IXL (R218). -/
def execLdRIxHalf (r : Reg8) (h : Half) (s : State) : Result :=
  .next ((s.setReg r (s.half .ix h)).done 8)

/-- `LD IYH,n` (R219). -/
def execLdIyhN (n : Byte) (s : State) : Result :=
  .next ((s.setHalf .iy .hi n).done 11)

/-- `LD IYL,n` (R219). -/
def execLdIylN (n : Byte) (s : State) : Result :=
  .next ((s.setHalf .iy .lo n).done 11)

/-- `LD (IY+d),n` (R207). -/
def execLdIydN (d : Byte) (n : Byte) (s : State) : Result :=
  .next ((s.busWrite (s.idxAddr .iy d) n).done 19)

/-- `LD r,(IY+d)` (R203). -/
def execLdRIyd (r : Reg8) (d : Byte) (s : State) : Result :=
  .next ((s.setReg r (s.busRead (s.idxAddr .iy d))).done 19)

/-- `LD (IY+d),r` (R205). -/
def execLdIydR (r : Reg8) (d : Byte) (s : State) : Result :=
  .next ((s.busWrite (s.idxAddr .iy d) (s.reg r)).done 19)

/-- LD IYH,r' and LD IYL,r' (R218). -/
def execLdIyHalfR (h : Half) (r : XReg8) (s : State) : Result :=
  .next ((s.setHalf .iy h (s.xreg .iy r)).done 8)

/-- LD r,IYH and LD r,IYL (R218). -/
def execLdRIyHalf (r : Reg8) (h : Half) (s : State) : Result :=
  .next ((s.setReg r (s.half .iy h)).done 8)

/-- `LD I,A` (R216). -/
def execLdIA (s : State) : Result :=
  .next ((s.setI s.cpu.a).done 9)

/-- `LD R,A` (R217). -/
def execLdRA (s : State) : Result :=
  .next ((s.setR s.cpu.a).done 9)

/-- `LD A,I` (R214). -/
def execLdAI (s : State) : Result :=
  .next (((s.setReg .a s.cpu.i).setF (loadIRFlags s.cpu.i s.cpu.iff2 s.cpu.cf)).done 9)

/-- `LD A,R` (R215). -/
def execLdAR (s : State) : Result :=
  .next (((s.setReg .a s.cpu.r).setF (loadIRFlags s.cpu.r s.cpu.iff2 s.cpu.cf)).done 9)

end Sys2Proof.Machine
end

