-- ==== Sys2Proof/Machine/Prefix.lean ====
section
/-! DEFINITION. The meanings of the instructions: the PREFIX rows (R141, R143).
Each runs after the instruction's bytes have been fetched and `IncR` applied: `PC` is the address after it (R320). -/

namespace Sys2Proof.Machine

/-- the bare prefix CB: no instruction, it selects a table (R141). DESIGN CHOICE (log 8). -/
def execPrefixCb (s : State) : Result :=
  .next ((s.setTable .cb).done 0)

/-- the bare prefix DD: no instruction, it selects a table (R141). DESIGN CHOICE (log 8). -/
def execPrefixDd (s : State) : Result :=
  .next ((s.setTable .dd).done 0)

/-- the bare prefix ED: no instruction, it selects a table (R141). DESIGN CHOICE (log 8). -/
def execPrefixEd (s : State) : Result :=
  .next ((s.setTable .ed).done 0)

/-- the bare prefix FD: no instruction, it selects a table (R141). DESIGN CHOICE (log 8). -/
def execPrefixFd (s : State) : Result :=
  .next ((s.setTable .fd).done 0)

/-- the bare prefix DD CB: no instruction, it selects a table (R141). DESIGN CHOICE (log 8). -/
def execPrefixDdCb (s : State) : Result :=
  .next ((s.setTable .ddcb).done 0)

/-- the bare prefix FD CB: no instruction, it selects a table (R141). DESIGN CHOICE (log 8). -/
def execPrefixFdCb (s : State) : Result :=
  .next ((s.setTable .fdcb).done 0)

end Sys2Proof.Machine
end

