-- ==== Sys2Proof/Machine/Rotate.lean ====
section
/-! DEFINITION. The meanings of the instructions: rotates and shifts (spec/46).
Each runs after the instruction's bytes have been fetched and `IncR` applied: `PC` is the address after it (R320). -/

namespace Sys2Proof.Machine

/-- `RLCA` (R370). -/
def execRlca (p : Pass) (s : State) : Result :=
  .next ((s.rotateAcc .rlc).done (4 + p.extra))

/-- `RRCA` (R371). -/
def execRrca (p : Pass) (s : State) : Result :=
  .next ((s.rotateAcc .rrc).done (4 + p.extra))

/-- `RLA` (R372). -/
def execRla (p : Pass) (s : State) : Result :=
  .next ((s.rotateAcc .rl).done (4 + p.extra))

/-- `RRA` (R373). -/
def execRra (p : Pass) (s : State) : Result :=
  .next ((s.rotateAcc .rr).done (4 + p.extra))

/-- `RLC r` (R375). -/
def execRlcR (r : Reg8) (s : State) : Result :=
  .next ((s.rotateReg .rlc r).done 8)

/-- `RRC r` (R376). -/
def execRrcR (r : Reg8) (s : State) : Result :=
  .next ((s.rotateReg .rrc r).done 8)

/-- `RL r` (R377). -/
def execRlR (r : Reg8) (s : State) : Result :=
  .next ((s.rotateReg .rl r).done 8)

/-- `RR r` (R378). -/
def execRrR (r : Reg8) (s : State) : Result :=
  .next ((s.rotateReg .rr r).done 8)

/-- `SLA r` (R379). -/
def execSlaR (r : Reg8) (s : State) : Result :=
  .next ((s.rotateReg .sla r).done 8)

/-- `SRA r` (R380). -/
def execSraR (r : Reg8) (s : State) : Result :=
  .next ((s.rotateReg .sra r).done 8)

/-- `SLL r` (R381). -/
def execSllR (r : Reg8) (s : State) : Result :=
  .next ((s.rotateReg .sll r).done 8)

/-- `SRL r` (R382). -/
def execSrlR (r : Reg8) (s : State) : Result :=
  .next ((s.rotateReg .srl r).done 8)

/-- `RLC (IX+d)` (R375). -/
def execRlcIxd (d : Byte) (s : State) : Result :=
  .next ((s.rotateMem .rlc (s.idxAddr .ix d)).done 23)

/-- `RLC (IX+d),r` (R375). -/
def execRlcIxdR (d : Byte) (r : Reg8) (s : State) : Result :=
  .next ((s.rotateMemReg .rlc (s.idxAddr .ix d) r).done 23)

/-- `RRC (IX+d)` (R376). -/
def execRrcIxd (d : Byte) (s : State) : Result :=
  .next ((s.rotateMem .rrc (s.idxAddr .ix d)).done 23)

/-- `RRC (IX+d),r` (R376). -/
def execRrcIxdR (d : Byte) (r : Reg8) (s : State) : Result :=
  .next ((s.rotateMemReg .rrc (s.idxAddr .ix d) r).done 23)

/-- `RL (IX+d)` (R377). -/
def execRlIxd (d : Byte) (s : State) : Result :=
  .next ((s.rotateMem .rl (s.idxAddr .ix d)).done 23)

/-- `RL (IX+d),r` (R377). -/
def execRlIxdR (d : Byte) (r : Reg8) (s : State) : Result :=
  .next ((s.rotateMemReg .rl (s.idxAddr .ix d) r).done 23)

/-- `RR (IX+d)` (R378). -/
def execRrIxd (d : Byte) (s : State) : Result :=
  .next ((s.rotateMem .rr (s.idxAddr .ix d)).done 23)

/-- `RR (IX+d),r` (R378). -/
def execRrIxdR (d : Byte) (r : Reg8) (s : State) : Result :=
  .next ((s.rotateMemReg .rr (s.idxAddr .ix d) r).done 23)

/-- `SLA (IX+d)` (R379). -/
def execSlaIxd (d : Byte) (s : State) : Result :=
  .next ((s.rotateMem .sla (s.idxAddr .ix d)).done 23)

/-- `SLA (IX+d),r` (R379). -/
def execSlaIxdR (d : Byte) (r : Reg8) (s : State) : Result :=
  .next ((s.rotateMemReg .sla (s.idxAddr .ix d) r).done 23)

/-- `SRA (IX+d)` (R380). -/
def execSraIxd (d : Byte) (s : State) : Result :=
  .next ((s.rotateMem .sra (s.idxAddr .ix d)).done 23)

/-- `SRA (IX+d),r` (R380). -/
def execSraIxdR (d : Byte) (r : Reg8) (s : State) : Result :=
  .next ((s.rotateMemReg .sra (s.idxAddr .ix d) r).done 23)

/-- `SLL (IX+d)` (R381). -/
def execSllIxd (d : Byte) (s : State) : Result :=
  .next ((s.rotateMem .sll (s.idxAddr .ix d)).done 23)

/-- `SLL (IX+d),r` (R381). -/
def execSllIxdR (d : Byte) (r : Reg8) (s : State) : Result :=
  .next ((s.rotateMemReg .sll (s.idxAddr .ix d) r).done 23)

/-- `SRL (IX+d)` (R382). -/
def execSrlIxd (d : Byte) (s : State) : Result :=
  .next ((s.rotateMem .srl (s.idxAddr .ix d)).done 23)

/-- `SRL (IX+d),r` (R382). -/
def execSrlIxdR (d : Byte) (r : Reg8) (s : State) : Result :=
  .next ((s.rotateMemReg .srl (s.idxAddr .ix d) r).done 23)

/-- `RLC (IY+d)` (R375). -/
def execRlcIyd (d : Byte) (s : State) : Result :=
  .next ((s.rotateMem .rlc (s.idxAddr .iy d)).done 23)

/-- `RLC (IY+d),r` (R375). -/
def execRlcIydR (d : Byte) (r : Reg8) (s : State) : Result :=
  .next ((s.rotateMemReg .rlc (s.idxAddr .iy d) r).done 23)

/-- `RRC (IY+d)` (R376). -/
def execRrcIyd (d : Byte) (s : State) : Result :=
  .next ((s.rotateMem .rrc (s.idxAddr .iy d)).done 23)

/-- `RRC (IY+d),r` (R376). -/
def execRrcIydR (d : Byte) (r : Reg8) (s : State) : Result :=
  .next ((s.rotateMemReg .rrc (s.idxAddr .iy d) r).done 23)

/-- `RL (IY+d)` (R377). -/
def execRlIyd (d : Byte) (s : State) : Result :=
  .next ((s.rotateMem .rl (s.idxAddr .iy d)).done 23)

/-- `RL (IY+d),r` (R377). -/
def execRlIydR (d : Byte) (r : Reg8) (s : State) : Result :=
  .next ((s.rotateMemReg .rl (s.idxAddr .iy d) r).done 23)

/-- `RR (IY+d)` (R378). -/
def execRrIyd (d : Byte) (s : State) : Result :=
  .next ((s.rotateMem .rr (s.idxAddr .iy d)).done 23)

/-- `RR (IY+d),r` (R378). -/
def execRrIydR (d : Byte) (r : Reg8) (s : State) : Result :=
  .next ((s.rotateMemReg .rr (s.idxAddr .iy d) r).done 23)

/-- `SLA (IY+d)` (R379). -/
def execSlaIyd (d : Byte) (s : State) : Result :=
  .next ((s.rotateMem .sla (s.idxAddr .iy d)).done 23)

/-- `SLA (IY+d),r` (R379). -/
def execSlaIydR (d : Byte) (r : Reg8) (s : State) : Result :=
  .next ((s.rotateMemReg .sla (s.idxAddr .iy d) r).done 23)

/-- `SRA (IY+d)` (R380). -/
def execSraIyd (d : Byte) (s : State) : Result :=
  .next ((s.rotateMem .sra (s.idxAddr .iy d)).done 23)

/-- `SRA (IY+d),r` (R380). -/
def execSraIydR (d : Byte) (r : Reg8) (s : State) : Result :=
  .next ((s.rotateMemReg .sra (s.idxAddr .iy d) r).done 23)

/-- `SLL (IY+d)` (R381). -/
def execSllIyd (d : Byte) (s : State) : Result :=
  .next ((s.rotateMem .sll (s.idxAddr .iy d)).done 23)

/-- `SLL (IY+d),r` (R381). -/
def execSllIydR (d : Byte) (r : Reg8) (s : State) : Result :=
  .next ((s.rotateMemReg .sll (s.idxAddr .iy d) r).done 23)

/-- `SRL (IY+d)` (R382). -/
def execSrlIyd (d : Byte) (s : State) : Result :=
  .next ((s.rotateMem .srl (s.idxAddr .iy d)).done 23)

/-- `SRL (IY+d),r` (R382). -/
def execSrlIydR (d : Byte) (r : Reg8) (s : State) : Result :=
  .next ((s.rotateMemReg .srl (s.idxAddr .iy d) r).done 23)

/-- `RLC (HL)` (R375). -/
def execRlcHl (s : State) : Result :=
  .next ((s.rotateMem .rlc s.hl).done 15)

/-- `RRC (HL)` (R376). -/
def execRrcHl (s : State) : Result :=
  .next ((s.rotateMem .rrc s.hl).done 15)

/-- `RL (HL)` (R377). -/
def execRlHl (s : State) : Result :=
  .next ((s.rotateMem .rl s.hl).done 15)

/-- `RR (HL)` (R378). -/
def execRrHl (s : State) : Result :=
  .next ((s.rotateMem .rr s.hl).done 15)

/-- `SLA (HL)` (R379). -/
def execSlaHl (s : State) : Result :=
  .next ((s.rotateMem .sla s.hl).done 15)

/-- `SRA (HL)` (R380). -/
def execSraHl (s : State) : Result :=
  .next ((s.rotateMem .sra s.hl).done 15)

/-- `SLL (HL)` (R381). -/
def execSllHl (s : State) : Result :=
  .next ((s.rotateMem .sll s.hl).done 15)

/-- `SRL (HL)` (R382). -/
def execSrlHl (s : State) : Result :=
  .next ((s.rotateMem .srl s.hl).done 15)

/-- `RRD` (R384). -/
def execRrd (s : State) : Result :=
  .next (s.rotateDigitRight.done 18)

/-- `RLD` (R383). -/
def execRld (s : State) : Result :=
  .next (s.rotateDigitLeft.done 18)

end Sys2Proof.Machine
end

