-- ==== Sys2Proof/Machine/Dispatch.lean ====
section
/-! DEFINITION. The meaning of each instruction, one arm per constructor of `Instr`. -/

namespace Sys2Proof.Machine

def exec (i : Instr) (s : State) : Host.Outcome State Fault Refusal :=
  match i with
  | .nop p => Sys2Proof.Machine.execNop p s
  | .exAfAf p => Sys2Proof.Machine.execExAfAf p s
  | .djnz p e => Sys2Proof.Machine.execDjnz p e s
  | .jrE p e => Sys2Proof.Machine.execJrE p e s
  | .jrCcE p cc e => Sys2Proof.Machine.execJrCcE p cc e s
  | .ldDdNn p q nn => Sys2Proof.Machine.execLdDdNn p q nn s
  | .addHlSs q => Sys2Proof.Machine.execAddHlSs q s
  | .ldBcA p => Sys2Proof.Machine.execLdBcA p s
  | .ldDeA p => Sys2Proof.Machine.execLdDeA p s
  | .ldNnHl nn => Sys2Proof.Machine.execLdNnHl nn s
  | .ldNnA p nn => Sys2Proof.Machine.execLdNnA p nn s
  | .ldABc p => Sys2Proof.Machine.execLdABc p s
  | .ldADe p => Sys2Proof.Machine.execLdADe p s
  | .ldHlNn nn => Sys2Proof.Machine.execLdHlNn nn s
  | .ldANn p nn => Sys2Proof.Machine.execLdANn p nn s
  | .incSs p q => Sys2Proof.Machine.execIncSs p q s
  | .decSs p q => Sys2Proof.Machine.execDecSs p q s
  | .incR p r => Sys2Proof.Machine.execIncR p r s
  | .decR p r => Sys2Proof.Machine.execDecR p r s
  | .ldRN p r n => Sys2Proof.Machine.execLdRN p r n s
  | .ldHlN n => Sys2Proof.Machine.execLdHlN n s
  | .rlca p => Sys2Proof.Machine.execRlca p s
  | .rrca p => Sys2Proof.Machine.execRrca p s
  | .rla p => Sys2Proof.Machine.execRla p s
  | .rra p => Sys2Proof.Machine.execRra p s
  | .daa p => Sys2Proof.Machine.execDaa p s
  | .cpl p => Sys2Proof.Machine.execCpl p s
  | .scf p => Sys2Proof.Machine.execScf p s
  | .ccf p => Sys2Proof.Machine.execCcf p s
  | .ldRR p dst r => Sys2Proof.Machine.execLdRR p dst r s
  | .ldRHl r => Sys2Proof.Machine.execLdRHl r s
  | .ldHlR r => Sys2Proof.Machine.execLdHlR r s
  | .halt p => Sys2Proof.Machine.execHalt p s
  | .addAR p r => Sys2Proof.Machine.execAddAR p r s
  | .addAN p n => Sys2Proof.Machine.execAddAN p n s
  | .adcAR p r => Sys2Proof.Machine.execAdcAR p r s
  | .adcAN p n => Sys2Proof.Machine.execAdcAN p n s
  | .subR p r => Sys2Proof.Machine.execSubR p r s
  | .subN p n => Sys2Proof.Machine.execSubN p n s
  | .sbcAR p r => Sys2Proof.Machine.execSbcAR p r s
  | .sbcAN p n => Sys2Proof.Machine.execSbcAN p n s
  | .andR p r => Sys2Proof.Machine.execAndR p r s
  | .andN p n => Sys2Proof.Machine.execAndN p n s
  | .xorR p r => Sys2Proof.Machine.execXorR p r s
  | .xorN p n => Sys2Proof.Machine.execXorN p n s
  | .orR p r => Sys2Proof.Machine.execOrR p r s
  | .orN p n => Sys2Proof.Machine.execOrN p n s
  | .cpR p r => Sys2Proof.Machine.execCpR p r s
  | .cpN p n => Sys2Proof.Machine.execCpN p n s
  | .retCc p cc => Sys2Proof.Machine.execRetCc p cc s
  | .popQq p q => Sys2Proof.Machine.execPopQq p q s
  | .ret p => Sys2Proof.Machine.execRet p s
  | .exx p => Sys2Proof.Machine.execExx p s
  | .jpCcNn p cc nn => Sys2Proof.Machine.execJpCcNn p cc nn s
  | .jpNn p nn => Sys2Proof.Machine.execJpNn p nn s
  | .outNA p n => Sys2Proof.Machine.execOutNA p n s
  | .inAN p n => Sys2Proof.Machine.execInAN p n s
  | .exDeHl p => Sys2Proof.Machine.execExDeHl p s
  | .di p => Sys2Proof.Machine.execDi p s
  | .ei p => Sys2Proof.Machine.execEi p s
  | .callCcNn p cc nn => Sys2Proof.Machine.execCallCcNn p cc nn s
  | .pushQq p q => Sys2Proof.Machine.execPushQq p q s
  | .callNn p nn => Sys2Proof.Machine.execCallNn p nn s
  | .rst p t => Sys2Proof.Machine.execRst p t s
  | .rlcR r => Sys2Proof.Machine.execRlcR r s
  | .rrcR r => Sys2Proof.Machine.execRrcR r s
  | .rlR r => Sys2Proof.Machine.execRlR r s
  | .rrR r => Sys2Proof.Machine.execRrR r s
  | .slaR r => Sys2Proof.Machine.execSlaR r s
  | .sraR r => Sys2Proof.Machine.execSraR r s
  | .sllR r => Sys2Proof.Machine.execSllR r s
  | .srlR r => Sys2Proof.Machine.execSrlR r s
  | .bitR b r => Sys2Proof.Machine.execBitR b r s
  | .bitHl b => Sys2Proof.Machine.execBitHl b s
  | .resR b r => Sys2Proof.Machine.execResR b r s
  | .resHl b => Sys2Proof.Machine.execResHl b s
  | .setR b r => Sys2Proof.Machine.execSetR b r s
  | .setHl b => Sys2Proof.Machine.execSetHl b s
  | .inRC r => Sys2Proof.Machine.execInRC r s
  | .outCR r => Sys2Proof.Machine.execOutCR r s
  | .sbcHlSs q => Sys2Proof.Machine.execSbcHlSs q s
  | .adcHlSs q => Sys2Proof.Machine.execAdcHlSs q s
  | .ldMemDd q nn => Sys2Proof.Machine.execLdMemDd q nn s
  | .ldDdMem q nn => Sys2Proof.Machine.execLdDdMem q nn s
  | .neg _ => Sys2Proof.Machine.execNeg s
  | .retn _ => Sys2Proof.Machine.execRetn s
  | .im0 _ => Sys2Proof.Machine.execIm0 s
  | .im1 _ => Sys2Proof.Machine.execIm1 s
  | .im2 _ => Sys2Proof.Machine.execIm2 s
  | .nopEd _ => Sys2Proof.Machine.execNopEd s
  | .ldIxNn nn => Sys2Proof.Machine.execLdIxNn nn s
  | .ldMemIx nn => Sys2Proof.Machine.execLdMemIx nn s
  | .ldIxMem nn => Sys2Proof.Machine.execLdIxMem nn s
  | .addIxPp q => Sys2Proof.Machine.execAddIxPp q s
  | .ldIxhN n => Sys2Proof.Machine.execLdIxhN n s
  | .ldIxlN n => Sys2Proof.Machine.execLdIxlN n s
  | .incIxd d => Sys2Proof.Machine.execIncIxd d s
  | .decIxd d => Sys2Proof.Machine.execDecIxd d s
  | .ldIxdN d n => Sys2Proof.Machine.execLdIxdN d n s
  | .ldRIxd r d => Sys2Proof.Machine.execLdRIxd r d s
  | .ldIxdR r d => Sys2Proof.Machine.execLdIxdR r d s
  | .ldIxHalfR h r => Sys2Proof.Machine.execLdIxHalfR h r s
  | .ldRIxHalf r h => Sys2Proof.Machine.execLdRIxHalf r h s
  | .addAIxd d => Sys2Proof.Machine.execAddAIxd d s
  | .adcAIxd d => Sys2Proof.Machine.execAdcAIxd d s
  | .subIxd d => Sys2Proof.Machine.execSubIxd d s
  | .sbcAIxd d => Sys2Proof.Machine.execSbcAIxd d s
  | .andIxd d => Sys2Proof.Machine.execAndIxd d s
  | .xorIxd d => Sys2Proof.Machine.execXorIxd d s
  | .orIxd d => Sys2Proof.Machine.execOrIxd d s
  | .cpIxd d => Sys2Proof.Machine.execCpIxd d s
  | .ldIyNn nn => Sys2Proof.Machine.execLdIyNn nn s
  | .ldMemIy nn => Sys2Proof.Machine.execLdMemIy nn s
  | .ldIyMem nn => Sys2Proof.Machine.execLdIyMem nn s
  | .addIyPp q => Sys2Proof.Machine.execAddIyPp q s
  | .ldIyhN n => Sys2Proof.Machine.execLdIyhN n s
  | .ldIylN n => Sys2Proof.Machine.execLdIylN n s
  | .incIyd d => Sys2Proof.Machine.execIncIyd d s
  | .decIyd d => Sys2Proof.Machine.execDecIyd d s
  | .ldIydN d n => Sys2Proof.Machine.execLdIydN d n s
  | .ldRIyd r d => Sys2Proof.Machine.execLdRIyd r d s
  | .ldIydR r d => Sys2Proof.Machine.execLdIydR r d s
  | .ldIyHalfR h r => Sys2Proof.Machine.execLdIyHalfR h r s
  | .ldRIyHalf r h => Sys2Proof.Machine.execLdRIyHalf r h s
  | .addAIyd d => Sys2Proof.Machine.execAddAIyd d s
  | .adcAIyd d => Sys2Proof.Machine.execAdcAIyd d s
  | .subIyd d => Sys2Proof.Machine.execSubIyd d s
  | .sbcAIyd d => Sys2Proof.Machine.execSbcAIyd d s
  | .andIyd d => Sys2Proof.Machine.execAndIyd d s
  | .xorIyd d => Sys2Proof.Machine.execXorIyd d s
  | .orIyd d => Sys2Proof.Machine.execOrIyd d s
  | .cpIyd d => Sys2Proof.Machine.execCpIyd d s
  | .rlcIxd d => Sys2Proof.Machine.execRlcIxd d s
  | .rlcIxdR d r => Sys2Proof.Machine.execRlcIxdR d r s
  | .rrcIxd d => Sys2Proof.Machine.execRrcIxd d s
  | .rrcIxdR d r => Sys2Proof.Machine.execRrcIxdR d r s
  | .rlIxd d => Sys2Proof.Machine.execRlIxd d s
  | .rlIxdR d r => Sys2Proof.Machine.execRlIxdR d r s
  | .rrIxd d => Sys2Proof.Machine.execRrIxd d s
  | .rrIxdR d r => Sys2Proof.Machine.execRrIxdR d r s
  | .slaIxd d => Sys2Proof.Machine.execSlaIxd d s
  | .slaIxdR d r => Sys2Proof.Machine.execSlaIxdR d r s
  | .sraIxd d => Sys2Proof.Machine.execSraIxd d s
  | .sraIxdR d r => Sys2Proof.Machine.execSraIxdR d r s
  | .sllIxd d => Sys2Proof.Machine.execSllIxd d s
  | .sllIxdR d r => Sys2Proof.Machine.execSllIxdR d r s
  | .srlIxd d => Sys2Proof.Machine.execSrlIxd d s
  | .srlIxdR d r => Sys2Proof.Machine.execSrlIxdR d r s
  | .bitIxd b d _ => Sys2Proof.Machine.execBitIxd b d s
  | .resIxd b d => Sys2Proof.Machine.execResIxd b d s
  | .resIxdR b d r => Sys2Proof.Machine.execResIxdR b d r s
  | .setIxd b d => Sys2Proof.Machine.execSetIxd b d s
  | .setIxdR b d r => Sys2Proof.Machine.execSetIxdR b d r s
  | .rlcIyd d => Sys2Proof.Machine.execRlcIyd d s
  | .rlcIydR d r => Sys2Proof.Machine.execRlcIydR d r s
  | .rrcIyd d => Sys2Proof.Machine.execRrcIyd d s
  | .rrcIydR d r => Sys2Proof.Machine.execRrcIydR d r s
  | .rlIyd d => Sys2Proof.Machine.execRlIyd d s
  | .rlIydR d r => Sys2Proof.Machine.execRlIydR d r s
  | .rrIyd d => Sys2Proof.Machine.execRrIyd d s
  | .rrIydR d r => Sys2Proof.Machine.execRrIydR d r s
  | .slaIyd d => Sys2Proof.Machine.execSlaIyd d s
  | .slaIydR d r => Sys2Proof.Machine.execSlaIydR d r s
  | .sraIyd d => Sys2Proof.Machine.execSraIyd d s
  | .sraIydR d r => Sys2Proof.Machine.execSraIydR d r s
  | .sllIyd d => Sys2Proof.Machine.execSllIyd d s
  | .sllIydR d r => Sys2Proof.Machine.execSllIydR d r s
  | .srlIyd d => Sys2Proof.Machine.execSrlIyd d s
  | .srlIydR d r => Sys2Proof.Machine.execSrlIydR d r s
  | .bitIyd b d _ => Sys2Proof.Machine.execBitIyd b d s
  | .resIyd b d => Sys2Proof.Machine.execResIyd b d s
  | .resIydR b d r => Sys2Proof.Machine.execResIydR b d r s
  | .setIyd b d => Sys2Proof.Machine.execSetIyd b d s
  | .setIydR b d r => Sys2Proof.Machine.execSetIydR b d r s
  | .incHl => Sys2Proof.Machine.execIncHl s
  | .decHl => Sys2Proof.Machine.execDecHl s
  | .addAHl => Sys2Proof.Machine.execAddAHl s
  | .adcAHl => Sys2Proof.Machine.execAdcAHl s
  | .subHl => Sys2Proof.Machine.execSubHl s
  | .sbcAHl => Sys2Proof.Machine.execSbcAHl s
  | .andHl => Sys2Proof.Machine.execAndHl s
  | .xorHl => Sys2Proof.Machine.execXorHl s
  | .orHl => Sys2Proof.Machine.execOrHl s
  | .cpHl => Sys2Proof.Machine.execCpHl s
  | .jpHl => Sys2Proof.Machine.execJpHl s
  | .ldSpHl => Sys2Proof.Machine.execLdSpHl s
  | .prefixCb => Sys2Proof.Machine.execPrefixCb s
  | .exSpHl => Sys2Proof.Machine.execExSpHl s
  | .prefixDd => Sys2Proof.Machine.execPrefixDd s
  | .prefixEd => Sys2Proof.Machine.execPrefixEd s
  | .prefixFd => Sys2Proof.Machine.execPrefixFd s
  | .rlcHl => Sys2Proof.Machine.execRlcHl s
  | .rrcHl => Sys2Proof.Machine.execRrcHl s
  | .rlHl => Sys2Proof.Machine.execRlHl s
  | .rrHl => Sys2Proof.Machine.execRrHl s
  | .slaHl => Sys2Proof.Machine.execSlaHl s
  | .sraHl => Sys2Proof.Machine.execSraHl s
  | .sllHl => Sys2Proof.Machine.execSllHl s
  | .srlHl => Sys2Proof.Machine.execSrlHl s
  | .inC => Sys2Proof.Machine.execInC s
  | .outC0 => Sys2Proof.Machine.execOutC0 s
  | .reti => Sys2Proof.Machine.execReti s
  | .ldIA => Sys2Proof.Machine.execLdIA s
  | .ldRA => Sys2Proof.Machine.execLdRA s
  | .ldAI => Sys2Proof.Machine.execLdAI s
  | .ldAR => Sys2Proof.Machine.execLdAR s
  | .rrd => Sys2Proof.Machine.execRrd s
  | .rld => Sys2Proof.Machine.execRld s
  | .ldi => Sys2Proof.Machine.execLdi s
  | .cpi => Sys2Proof.Machine.execCpi s
  | .ini => Sys2Proof.Machine.execIni s
  | .outi => Sys2Proof.Machine.execOuti s
  | .ldd => Sys2Proof.Machine.execLdd s
  | .cpd => Sys2Proof.Machine.execCpd s
  | .ind => Sys2Proof.Machine.execInd s
  | .outd => Sys2Proof.Machine.execOutd s
  | .ldir => Sys2Proof.Machine.execLdir s
  | .cpir => Sys2Proof.Machine.execCpir s
  | .inir => Sys2Proof.Machine.execInir s
  | .otir => Sys2Proof.Machine.execOtir s
  | .lddr => Sys2Proof.Machine.execLddr s
  | .cpdr => Sys2Proof.Machine.execCpdr s
  | .indr => Sys2Proof.Machine.execIndr s
  | .otdr => Sys2Proof.Machine.execOtdr s
  | .incIx => Sys2Proof.Machine.execIncIx s
  | .decIx => Sys2Proof.Machine.execDecIx s
  | .incIxh => Sys2Proof.Machine.execIncIxh s
  | .decIxh => Sys2Proof.Machine.execDecIxh s
  | .incIxl => Sys2Proof.Machine.execIncIxl s
  | .decIxl => Sys2Proof.Machine.execDecIxl s
  | .addAIxh => Sys2Proof.Machine.execAddAIxh s
  | .addAIxl => Sys2Proof.Machine.execAddAIxl s
  | .adcAIxh => Sys2Proof.Machine.execAdcAIxh s
  | .adcAIxl => Sys2Proof.Machine.execAdcAIxl s
  | .subIxh => Sys2Proof.Machine.execSubIxh s
  | .subIxl => Sys2Proof.Machine.execSubIxl s
  | .sbcAIxh => Sys2Proof.Machine.execSbcAIxh s
  | .sbcAIxl => Sys2Proof.Machine.execSbcAIxl s
  | .andIxh => Sys2Proof.Machine.execAndIxh s
  | .andIxl => Sys2Proof.Machine.execAndIxl s
  | .xorIxh => Sys2Proof.Machine.execXorIxh s
  | .xorIxl => Sys2Proof.Machine.execXorIxl s
  | .orIxh => Sys2Proof.Machine.execOrIxh s
  | .orIxl => Sys2Proof.Machine.execOrIxl s
  | .cpIxh => Sys2Proof.Machine.execCpIxh s
  | .cpIxl => Sys2Proof.Machine.execCpIxl s
  | .popIx => Sys2Proof.Machine.execPopIx s
  | .pushIx => Sys2Proof.Machine.execPushIx s
  | .exSpIx => Sys2Proof.Machine.execExSpIx s
  | .jpIx => Sys2Proof.Machine.execJpIx s
  | .ldSpIx => Sys2Proof.Machine.execLdSpIx s
  | .prefixDdCb => Sys2Proof.Machine.execPrefixDdCb s
  | .aloneDdDd => Sys2Proof.Machine.execAloneDdDd s
  | .aloneDdEd => Sys2Proof.Machine.execAloneDdEd s
  | .aloneDdFd => Sys2Proof.Machine.execAloneDdFd s
  | .incIy => Sys2Proof.Machine.execIncIy s
  | .decIy => Sys2Proof.Machine.execDecIy s
  | .incIyh => Sys2Proof.Machine.execIncIyh s
  | .decIyh => Sys2Proof.Machine.execDecIyh s
  | .incIyl => Sys2Proof.Machine.execIncIyl s
  | .decIyl => Sys2Proof.Machine.execDecIyl s
  | .addAIyh => Sys2Proof.Machine.execAddAIyh s
  | .addAIyl => Sys2Proof.Machine.execAddAIyl s
  | .adcAIyh => Sys2Proof.Machine.execAdcAIyh s
  | .adcAIyl => Sys2Proof.Machine.execAdcAIyl s
  | .subIyh => Sys2Proof.Machine.execSubIyh s
  | .subIyl => Sys2Proof.Machine.execSubIyl s
  | .sbcAIyh => Sys2Proof.Machine.execSbcAIyh s
  | .sbcAIyl => Sys2Proof.Machine.execSbcAIyl s
  | .andIyh => Sys2Proof.Machine.execAndIyh s
  | .andIyl => Sys2Proof.Machine.execAndIyl s
  | .xorIyh => Sys2Proof.Machine.execXorIyh s
  | .xorIyl => Sys2Proof.Machine.execXorIyl s
  | .orIyh => Sys2Proof.Machine.execOrIyh s
  | .orIyl => Sys2Proof.Machine.execOrIyl s
  | .cpIyh => Sys2Proof.Machine.execCpIyh s
  | .cpIyl => Sys2Proof.Machine.execCpIyl s
  | .popIy => Sys2Proof.Machine.execPopIy s
  | .pushIy => Sys2Proof.Machine.execPushIy s
  | .exSpIy => Sys2Proof.Machine.execExSpIy s
  | .jpIy => Sys2Proof.Machine.execJpIy s
  | .ldSpIy => Sys2Proof.Machine.execLdSpIy s
  | .prefixFdCb => Sys2Proof.Machine.execPrefixFdCb s
  | .aloneFdDd => Sys2Proof.Machine.execAloneFdDd s
  | .aloneFdEd => Sys2Proof.Machine.execAloneFdEd s
  | .aloneFdFd => Sys2Proof.Machine.execAloneFdFd s

end Sys2Proof.Machine
end

