-- ==== Sys2Proof/WellFormed.lean ====
section
/-! DEFINITION. Which terms of `Instr` stand for an encoding of the table: the operands each row admits. -/

namespace Sys2Proof

/-- A register an index prefix leaves as it is: not `H`, not `L` (R150, R161). -/
def Reg8.plain (r : Reg8) : Bool :=
  match r with
  | .h | .l => false
  | .b | .c | .d | .e | .a => true

/-- Does the XY_PASS row admit register `r`? With a prefix, `H` and `L` would be index halves (R161, R323). -/
def Pass.admits (p : Pass) (r : Reg8) : Bool :=
  match p with
  | .none => true
  | .dd | .fd => r.plain

/-- Does the XY_PASS row admit pair `q`? With a prefix, `HL` would be the index register (R150, R323). -/
def Pass.admitsPair (p : Pass) (q : Pair) : Bool :=
  match p with
  | .none => true
  | .dd | .fd => decide (q ≠ .hl)

/-- Does the XY_PASS row of PUSH and POP admit pair `q`? (R150, R323) -/
def Pass.admitsStack (p : Pass) (q : StackPair) : Bool :=
  match p with
  | .none => true
  | .dd | .fd => decide (q ≠ .hl)

/-- The ED opcodes of `IM 0`: 46, 4E, 66, 6E (R330). -/
def im0Code (y : Code3) : Bool := decide (y = 0 ∨ y = 1 ∨ y = 4 ∨ y = 5)

/-- The ED opcodes of `IM 1`: 56, 76 (R330). -/
def im1Code (y : Code3) : Bool := decide (y = 2 ∨ y = 6)

/-- The ED opcodes of `IM 2`: 5E, 7E (R330). -/
def im2Code (y : Code3) : Bool := decide (y = 3 ∨ y = 7)

/-- The ED opcodes of `RETN`: 45, 55, 5D, 65, 6D, 75, 7D; 4D is `RETI` (R434, R435). -/
def retnCode (y : Code3) : Bool := decide (y ≠ 1)

/-- Does R147 assign the ED opcode `op`? The listed rows are 40..76, 78..7E and the block instructions; the rest are
no-ops (R166). -/
def edAssigned (op : Byte) : Bool :=
  match fieldX op with
  | 1 => decide (fieldZ op ≠ 7 ∨ fieldY op < 6)
  | 2 => decide (fieldZ op < 4 ∧ 4 ≤ fieldY op)
  | _ => false

/-- Does `i` stand for an encoding of the table? A PREFIX row is no instruction by itself (R143). -/
def wellFormed (i : Instr) : Bool :=
  match i with
  | .nop _ => true
  | .exAfAf _ => true
  | .djnz _ _ => true
  | .jrE _ _ => true
  | .jrCcE _ _ _ => true
  | .ldDdNn p q _ => p.admitsPair q
  | .addHlSs _ => true
  | .ldBcA _ => true
  | .ldDeA _ => true
  | .ldNnHl _ => true
  | .ldNnA _ _ => true
  | .ldABc _ => true
  | .ldADe _ => true
  | .ldHlNn _ => true
  | .ldANn _ _ => true
  | .incSs p q => p.admitsPair q
  | .decSs p q => p.admitsPair q
  | .incR p r => p.admits r
  | .decR p r => p.admits r
  | .ldRN p r _ => p.admits r
  | .ldHlN _ => true
  | .rlca _ => true
  | .rrca _ => true
  | .rla _ => true
  | .rra _ => true
  | .daa _ => true
  | .cpl _ => true
  | .scf _ => true
  | .ccf _ => true
  | .ldRR p dst r => p.admits dst && p.admits r
  | .ldRHl _ => true
  | .ldHlR _ => true
  | .halt _ => true
  | .addAR p r => p.admits r
  | .addAN _ _ => true
  | .adcAR p r => p.admits r
  | .adcAN _ _ => true
  | .subR p r => p.admits r
  | .subN _ _ => true
  | .sbcAR p r => p.admits r
  | .sbcAN _ _ => true
  | .andR p r => p.admits r
  | .andN _ _ => true
  | .xorR p r => p.admits r
  | .xorN _ _ => true
  | .orR p r => p.admits r
  | .orN _ _ => true
  | .cpR p r => p.admits r
  | .cpN _ _ => true
  | .retCc _ _ => true
  | .popQq p q => p.admitsStack q
  | .ret _ => true
  | .exx _ => true
  | .jpCcNn _ _ _ => true
  | .jpNn _ _ => true
  | .outNA _ _ => true
  | .inAN _ _ => true
  | .exDeHl _ => true
  | .di _ => true
  | .ei _ => true
  | .callCcNn _ _ _ => true
  | .pushQq p q => p.admitsStack q
  | .callNn _ _ => true
  | .rst _ _ => true
  | .rlcR _ => true
  | .rrcR _ => true
  | .rlR _ => true
  | .rrR _ => true
  | .slaR _ => true
  | .sraR _ => true
  | .sllR _ => true
  | .srlR _ => true
  | .bitR _ _ => true
  | .bitHl _ => true
  | .resR _ _ => true
  | .resHl _ => true
  | .setR _ _ => true
  | .setHl _ => true
  | .inRC _ => true
  | .outCR _ => true
  | .sbcHlSs _ => true
  | .adcHlSs _ => true
  | .ldMemDd _ _ => true
  | .ldDdMem _ _ => true
  | .neg _ => true
  | .retn y => retnCode y
  | .im0 y => im0Code y
  | .im1 y => im1Code y
  | .im2 y => im2Code y
  | .nopEd op => !edAssigned op
  | .ldIxNn _ => true
  | .ldMemIx _ => true
  | .ldIxMem _ => true
  | .addIxPp _ => true
  | .ldIxhN _ => true
  | .ldIxlN _ => true
  | .incIxd _ => true
  | .decIxd _ => true
  | .ldIxdN _ _ => true
  | .ldRIxd _ _ => true
  | .ldIxdR _ _ => true
  | .ldIxHalfR _ _ => true
  | .ldRIxHalf r _ => Reg8.plain r
  | .addAIxd _ => true
  | .adcAIxd _ => true
  | .subIxd _ => true
  | .sbcAIxd _ => true
  | .andIxd _ => true
  | .xorIxd _ => true
  | .orIxd _ => true
  | .cpIxd _ => true
  | .ldIyNn _ => true
  | .ldMemIy _ => true
  | .ldIyMem _ => true
  | .addIyPp _ => true
  | .ldIyhN _ => true
  | .ldIylN _ => true
  | .incIyd _ => true
  | .decIyd _ => true
  | .ldIydN _ _ => true
  | .ldRIyd _ _ => true
  | .ldIydR _ _ => true
  | .ldIyHalfR _ _ => true
  | .ldRIyHalf r _ => Reg8.plain r
  | .addAIyd _ => true
  | .adcAIyd _ => true
  | .subIyd _ => true
  | .sbcAIyd _ => true
  | .andIyd _ => true
  | .xorIyd _ => true
  | .orIyd _ => true
  | .cpIyd _ => true
  | .rlcIxd _ => true
  | .rlcIxdR _ _ => true
  | .rrcIxd _ => true
  | .rrcIxdR _ _ => true
  | .rlIxd _ => true
  | .rlIxdR _ _ => true
  | .rrIxd _ => true
  | .rrIxdR _ _ => true
  | .slaIxd _ => true
  | .slaIxdR _ _ => true
  | .sraIxd _ => true
  | .sraIxdR _ _ => true
  | .sllIxd _ => true
  | .sllIxdR _ _ => true
  | .srlIxd _ => true
  | .srlIxdR _ _ => true
  | .bitIxd _ _ _ => true
  | .resIxd _ _ => true
  | .resIxdR _ _ _ => true
  | .setIxd _ _ => true
  | .setIxdR _ _ _ => true
  | .rlcIyd _ => true
  | .rlcIydR _ _ => true
  | .rrcIyd _ => true
  | .rrcIydR _ _ => true
  | .rlIyd _ => true
  | .rlIydR _ _ => true
  | .rrIyd _ => true
  | .rrIydR _ _ => true
  | .slaIyd _ => true
  | .slaIydR _ _ => true
  | .sraIyd _ => true
  | .sraIydR _ _ => true
  | .sllIyd _ => true
  | .sllIydR _ _ => true
  | .srlIyd _ => true
  | .srlIydR _ _ => true
  | .bitIyd _ _ _ => true
  | .resIyd _ _ => true
  | .resIydR _ _ _ => true
  | .setIyd _ _ => true
  | .setIydR _ _ _ => true
  | .incHl => true
  | .decHl => true
  | .addAHl => true
  | .adcAHl => true
  | .subHl => true
  | .sbcAHl => true
  | .andHl => true
  | .xorHl => true
  | .orHl => true
  | .cpHl => true
  | .jpHl => true
  | .ldSpHl => true
  | .prefixCb => false
  | .exSpHl => true
  | .prefixDd => false
  | .prefixEd => false
  | .prefixFd => false
  | .rlcHl => true
  | .rrcHl => true
  | .rlHl => true
  | .rrHl => true
  | .slaHl => true
  | .sraHl => true
  | .sllHl => true
  | .srlHl => true
  | .inC => true
  | .outC0 => true
  | .reti => true
  | .ldIA => true
  | .ldRA => true
  | .ldAI => true
  | .ldAR => true
  | .rrd => true
  | .rld => true
  | .ldi => true
  | .cpi => true
  | .ini => true
  | .outi => true
  | .ldd => true
  | .cpd => true
  | .ind => true
  | .outd => true
  | .ldir => true
  | .cpir => true
  | .inir => true
  | .otir => true
  | .lddr => true
  | .cpdr => true
  | .indr => true
  | .otdr => true
  | .incIx => true
  | .decIx => true
  | .incIxh => true
  | .decIxh => true
  | .incIxl => true
  | .decIxl => true
  | .addAIxh => true
  | .addAIxl => true
  | .adcAIxh => true
  | .adcAIxl => true
  | .subIxh => true
  | .subIxl => true
  | .sbcAIxh => true
  | .sbcAIxl => true
  | .andIxh => true
  | .andIxl => true
  | .xorIxh => true
  | .xorIxl => true
  | .orIxh => true
  | .orIxl => true
  | .cpIxh => true
  | .cpIxl => true
  | .popIx => true
  | .pushIx => true
  | .exSpIx => true
  | .jpIx => true
  | .ldSpIx => true
  | .prefixDdCb => false
  | .aloneDdDd => true
  | .aloneDdEd => true
  | .aloneDdFd => true
  | .incIy => true
  | .decIy => true
  | .incIyh => true
  | .decIyh => true
  | .incIyl => true
  | .decIyl => true
  | .addAIyh => true
  | .addAIyl => true
  | .adcAIyh => true
  | .adcAIyl => true
  | .subIyh => true
  | .subIyl => true
  | .sbcAIyh => true
  | .sbcAIyl => true
  | .andIyh => true
  | .andIyl => true
  | .xorIyh => true
  | .xorIyl => true
  | .orIyh => true
  | .orIyl => true
  | .cpIyh => true
  | .cpIyl => true
  | .popIy => true
  | .pushIy => true
  | .exSpIy => true
  | .jpIy => true
  | .ldSpIy => true
  | .prefixFdCb => false
  | .aloneFdDd => true
  | .aloneFdEd => true
  | .aloneFdFd => true

end Sys2Proof
end

