-- ==== Sys2Proof/Decode.lean ====
section
/-! DEFINITION. The decoder, total on bytes, and the encoder (R140 to R166). -/

namespace Sys2Proof

/-! ### Operand codes (R13, R142) -/

/-- The code of a register in `R8` (R13). -/
def Reg8.code (r : Reg8) : Nat :=
  match r with
  | .b => 0 | .c => 1 | .d => 2 | .e => 3 | .h => 4 | .l => 5 | .a => 7

/-- The register of code `k` in `R8` (R13); code 6 is the memory operand, which every caller takes out before. -/
def Reg8.ofCode (k : Nat) : Reg8 :=
  match k with
  | 0 => .b | 1 => .c | 2 => .d | 3 => .e | 4 => .h | 5 => .l | _ => .a

/-- The code of a pair in `RP` (R13). -/
def Pair.code (q : Pair) : Nat :=
  match q with
  | .bc => 0 | .de => 1 | .hl => 2 | .sp => 3

/-- The pair of code `k` in `RP` (R13). -/
def Pair.ofCode (k : Nat) : Pair :=
  match k with
  | 0 => .bc | 1 => .de | 2 => .hl | _ => .sp

/-- The code of a pair in `RP2` (R13). -/
def StackPair.code (q : StackPair) : Nat :=
  match q with
  | .bc => 0 | .de => 1 | .hl => 2 | .af => 3

/-- The pair of code `k` in `RP2` (R13). -/
def StackPair.ofCode (k : Nat) : StackPair :=
  match k with
  | 0 => .bc | 1 => .de | 2 => .hl | _ => .af

/-- The code of an operand of `ADD ii,pp` (R353). -/
def IxPair.code (q : IxPair) : Nat :=
  match q with
  | .bc => 0 | .de => 1 | .ii => 2 | .sp => 3

/-- The operand of `ADD ii,pp` of code `k` (R353). -/
def IxPair.ofCode (k : Nat) : IxPair :=
  match k with
  | 0 => .bc | 1 => .de | 2 => .ii | _ => .sp

/-- The code of a condition in `CC` (R13). -/
def Cond.code (cc : Cond) : Nat :=
  match cc with
  | .nz => 0 | .z => 1 | .nc => 2 | .c => 3 | .po => 4 | .pe => 5 | .p => 6 | .m => 7

/-- The condition of code `k` in `CC` (R13). -/
def Cond.ofCode (k : Nat) : Cond :=
  match k with
  | 0 => .nz | 1 => .z | 2 => .nc | 3 => .c | 4 => .po | 5 => .pe | 6 => .p | _ => .m

/-- The code of a condition of `JR cc,e`: the field `y - 4` (R423). -/
def JrCond.code (cc : JrCond) : Nat :=
  match cc with
  | .nz => 0 | .z => 1 | .nc => 2 | .c => 3

/-- The condition of `JR cc,e` of code `k` (R423). -/
def JrCond.ofCode (k : Nat) : JrCond :=
  match k with
  | 0 => .nz | 1 => .z | 2 => .nc | _ => .c

/-- 0 for the high half, 1 for the low half: what the register codes 4 and 5 add to 4 (R161). -/
def Half.code (h : Half) : Nat :=
  match h with
  | .hi => 0 | .lo => 1

/-- The half that register code 4 or 5 names (R161). -/
def Half.ofReg (k : Nat) : Half :=
  match k with
  | 4 => .hi | _ => .lo

/-- The code of a source operand of a load into an index half (R218). -/
def XReg8.code (r : XReg8) : Nat :=
  match r with
  | .b => 0 | .c => 1 | .d => 2 | .e => 3 | .xh => 4 | .xl => 5 | .a => 7

/-- The source operand of code `k` of a load into an index half (R218). -/
def XReg8.ofCode (k : Nat) : XReg8 :=
  match k with
  | 0 => .b | 1 => .c | 2 => .d | 3 => .e | 4 => .xh | 5 => .xl | _ => .a

/-- A 3-bit field as a `Code3`. -/
def code3 (k : Nat) : Code3 := Fin.ofNat 8 k

/-- The prefix bytes of an unprefixed or XY_PASS row (R323). -/
def Pass.bytes (p : Pass) : List Byte :=
  match p with
  | .none => [] | .dd => [0xDD] | .fd => [0xFD]

/-- The index prefix that selects `i` (R150), as the prefix of an XY_PASS row. -/
def Index.pass (i : Index) : Pass :=
  match i with
  | .ix => .dd | .iy => .fd

/-- The IX form or the IY form of an instruction. -/
def Index.pick {α : Type} (i : Index) (ofIx ofIy : α) : α :=
  match i with
  | .ix => ofIx | .iy => ofIy

/-! ### The main table (R145) -/

/-- `ALU[y] r` (R142, R290). -/
def decodeAluR (p : Pass) (y : Nat) (r : Reg8) : Instr :=
  match y with
  | 0 => .addAR p r | 1 => .adcAR p r | 2 => .subR p r | 3 => .sbcAR p r
  | 4 => .andR p r | 5 => .xorR p r | 6 => .orR p r | _ => .cpR p r

/-- `ALU[y] (HL)` (R142, R290). -/
def decodeAluHl (y : Nat) : Instr :=
  match y with
  | 0 => .addAHl | 1 => .adcAHl | 2 => .subHl | 3 => .sbcAHl
  | 4 => .andHl | 5 => .xorHl | 6 => .orHl | _ => .cpHl

/-- `ALU[y] n` (R142, R290). -/
def decodeAluN (p : Pass) (y : Nat) (n : Byte) : Instr :=
  match y with
  | 0 => .addAN p n | 1 => .adcAN p n | 2 => .subN p n | 3 => .sbcAN p n
  | 4 => .andN p n | 5 => .xorN p n | 6 => .orN p n | _ => .cpN p n

/-- The quarter `x = 0` of the main table (R145); `b1`, `b2` are the bytes after the opcode. -/
def decodeMain0 (p : Pass) (op b1 b2 : Byte) : Instr :=
  match fieldZ op with
  | 0 =>
    match fieldY op with
    | 0 => .nop p
    | 1 => .exAfAf p
    | 2 => .djnz p b1
    | 3 => .jrE p b1
    | y => .jrCcE p (JrCond.ofCode (y - 4)) b1
  | 1 =>
    if fieldQ op = 0 then .ldDdNn p (Pair.ofCode (fieldP op)) (joinBytes b2 b1)
    else .addHlSs (Pair.ofCode (fieldP op))
  | 2 =>
    match fieldY op with
    | 0 => .ldBcA p
    | 1 => .ldABc p
    | 2 => .ldDeA p
    | 3 => .ldADe p
    | 4 => .ldNnHl (joinBytes b2 b1)
    | 5 => .ldHlNn (joinBytes b2 b1)
    | 6 => .ldNnA p (joinBytes b2 b1)
    | _ => .ldANn p (joinBytes b2 b1)
  | 3 => if fieldQ op = 0 then .incSs p (Pair.ofCode (fieldP op)) else .decSs p (Pair.ofCode (fieldP op))
  | 4 => if fieldY op = 6 then .incHl else .incR p (Reg8.ofCode (fieldY op))
  | 5 => if fieldY op = 6 then .decHl else .decR p (Reg8.ofCode (fieldY op))
  | 6 => if fieldY op = 6 then .ldHlN b1 else .ldRN p (Reg8.ofCode (fieldY op)) b1
  | _ =>
    match fieldY op with
    | 0 => .rlca p
    | 1 => .rrca p
    | 2 => .rla p
    | 3 => .rra p
    | 4 => .daa p
    | 5 => .cpl p
    | 6 => .scf p
    | _ => .ccf p

/-- The quarter `x = 1` of the main table: the 8-bit loads and HALT (R145). -/
def decodeMain1 (p : Pass) (op : Byte) : Instr :=
  if fieldY op = 6 then
    if fieldZ op = 6 then .halt p else .ldHlR (Reg8.ofCode (fieldZ op))
  else if fieldZ op = 6 then .ldRHl (Reg8.ofCode (fieldY op))
  else .ldRR p (Reg8.ofCode (fieldY op)) (Reg8.ofCode (fieldZ op))

/-- The quarter `x = 2` of the main table: `ALU[y] R8[z]` (R145). -/
def decodeMain2 (p : Pass) (op : Byte) : Instr :=
  if fieldZ op = 6 then decodeAluHl (fieldY op) else decodeAluR p (fieldY op) (Reg8.ofCode (fieldZ op))

/-- The quarter `x = 3` of the main table (R145). The four prefix bytes select another table and are taken out
before (R141); here they name their PREFIX rows. -/
def decodeMain3 (p : Pass) (op b1 b2 : Byte) : Instr :=
  match fieldZ op with
  | 0 => .retCc p (Cond.ofCode (fieldY op))
  | 1 =>
    if fieldQ op = 0 then .popQq p (StackPair.ofCode (fieldP op))
    else
      match fieldP op with
      | 0 => .ret p
      | 1 => .exx p
      | 2 => .jpHl
      | _ => .ldSpHl
  | 2 => .jpCcNn p (Cond.ofCode (fieldY op)) (joinBytes b2 b1)
  | 3 =>
    match fieldY op with
    | 0 => .jpNn p (joinBytes b2 b1)
    | 1 => .prefixCb
    | 2 => .outNA p b1
    | 3 => .inAN p b1
    | 4 => .exSpHl
    | 5 => .exDeHl p
    | 6 => .di p
    | _ => .ei p
  | 4 => .callCcNn p (Cond.ofCode (fieldY op)) (joinBytes b2 b1)
  | 5 =>
    if fieldQ op = 0 then .pushQq p (StackPair.ofCode (fieldP op))
    else
      match fieldP op with
      | 0 => .callNn p (joinBytes b2 b1)
      | 1 => .prefixDd
      | 2 => .prefixEd
      | _ => .prefixFd
  | 6 => decodeAluN p (fieldY op) b1
  | _ => .rst p (code3 (fieldY op))

/-- The main table (R145), for an opcode after the prefix `p` that does not change it (R166). -/
def decodeMain (p : Pass) (op b1 b2 : Byte) : Instr :=
  match fieldX op with
  | 0 => decodeMain0 p op b1 b2
  | 1 => decodeMain1 p op
  | 2 => decodeMain2 p op
  | _ => decodeMain3 p op b1 b2

/-! ### The CB table (R146) -/

/-- `ROT[y] r` (R142, R374). -/
def decodeRotR (y : Nat) (r : Reg8) : Instr :=
  match y with
  | 0 => .rlcR r | 1 => .rrcR r | 2 => .rlR r | 3 => .rrR r
  | 4 => .slaR r | 5 => .sraR r | 6 => .sllR r | _ => .srlR r

/-- `ROT[y] (HL)` (R142, R374). -/
def decodeRotHl (y : Nat) : Instr :=
  match y with
  | 0 => .rlcHl | 1 => .rrcHl | 2 => .rlHl | 3 => .rrHl
  | 4 => .slaHl | 5 => .sraHl | 6 => .sllHl | _ => .srlHl

/-- The CB table (R146). -/
def decodeCb (op : Byte) : Instr :=
  let b := code3 (fieldY op)
  let r := Reg8.ofCode (fieldZ op)
  if fieldZ op = 6 then
    match fieldX op with
    | 0 => decodeRotHl (fieldY op)
    | 1 => .bitHl b
    | 2 => .resHl b
    | _ => .setHl b
  else
    match fieldX op with
    | 0 => decodeRotR (fieldY op) r
    | 1 => .bitR b r
    | 2 => .resR b r
    | _ => .setR b r

/-! ### The ED table (R147) -/

/-- The quarter `x = 1` of the ED table (R147). -/
def decodeEd1 (op b2 b3 : Byte) : Instr :=
  match fieldZ op with
  | 0 => if fieldY op = 6 then .inC else .inRC (Reg8.ofCode (fieldY op))
  | 1 => if fieldY op = 6 then .outC0 else .outCR (Reg8.ofCode (fieldY op))
  | 2 => if fieldQ op = 0 then .sbcHlSs (Pair.ofCode (fieldP op)) else .adcHlSs (Pair.ofCode (fieldP op))
  | 3 =>
    if fieldQ op = 0 then .ldMemDd (Pair.ofCode (fieldP op)) (joinBytes b3 b2)
    else .ldDdMem (Pair.ofCode (fieldP op)) (joinBytes b3 b2)
  | 4 => .neg (code3 (fieldY op))
  | 5 => if fieldY op = 1 then .reti else .retn (code3 (fieldY op))
  | 6 =>
    match fieldY op % 4 with
    | 2 => .im1 (code3 (fieldY op))
    | 3 => .im2 (code3 (fieldY op))
    | _ => .im0 (code3 (fieldY op))
  | _ =>
    match fieldY op with
    | 0 => .ldIA
    | 1 => .ldRA
    | 2 => .ldAI
    | 3 => .ldAR
    | 4 => .rrd
    | 5 => .rld
    | _ => .nopEd op

/-- The block instructions of the quarter `x = 2` of the ED table (R147). -/
def decodeEd2 (op : Byte) : Instr :=
  match fieldY op, fieldZ op with
  | 4, 0 => .ldi | 4, 1 => .cpi | 4, 2 => .ini | 4, 3 => .outi
  | 5, 0 => .ldd | 5, 1 => .cpd | 5, 2 => .ind | 5, 3 => .outd
  | 6, 0 => .ldir | 6, 1 => .cpir | 6, 2 => .inir | 6, 3 => .otir
  | 7, 0 => .lddr | 7, 1 => .cpdr | 7, 2 => .indr | 7, 3 => .otdr
  | _, _ => .nopEd op

/-- The ED table (R147); what it does not assign is a two-byte no-op (R166). -/
def decodeEd (op b2 b3 : Byte) : Instr :=
  match fieldX op with
  | 1 => decodeEd1 op b2 b3
  | 2 => decodeEd2 op
  | _ => .nopEd op

/-! ### The index prefixes (R150, R161) -/

/-- `ALU[y] (ii+d)` (R290). -/
def decodeAluXyd (i : Index) (y : Nat) (d : Byte) : Instr :=
  match y with
  | 0 => i.pick (.addAIxd d) (.addAIyd d) | 1 => i.pick (.adcAIxd d) (.adcAIyd d)
  | 2 => i.pick (.subIxd d) (.subIyd d) | 3 => i.pick (.sbcAIxd d) (.sbcAIyd d)
  | 4 => i.pick (.andIxd d) (.andIyd d) | 5 => i.pick (.xorIxd d) (.xorIyd d)
  | 6 => i.pick (.orIxd d) (.orIyd d) | _ => i.pick (.cpIxd d) (.cpIyd d)

/-- `ALU[y] iiH` (R161, R290). -/
def decodeAluXh (i : Index) (y : Nat) : Instr :=
  match y with
  | 0 => i.pick .addAIxh .addAIyh | 1 => i.pick .adcAIxh .adcAIyh
  | 2 => i.pick .subIxh .subIyh | 3 => i.pick .sbcAIxh .sbcAIyh
  | 4 => i.pick .andIxh .andIyh | 5 => i.pick .xorIxh .xorIyh
  | 6 => i.pick .orIxh .orIyh | _ => i.pick .cpIxh .cpIyh

/-- `ALU[y] iiL` (R161, R290). -/
def decodeAluXl (i : Index) (y : Nat) : Instr :=
  match y with
  | 0 => i.pick .addAIxl .addAIyl | 1 => i.pick .adcAIxl .adcAIyl
  | 2 => i.pick .subIxl .subIyl | 3 => i.pick .sbcAIxl .sbcAIyl
  | 4 => i.pick .andIxl .andIyl | 5 => i.pick .xorIxl .xorIyl
  | 6 => i.pick .orIxl .orIyl | _ => i.pick .cpIxl .cpIyl

/-- The quarter `x = 0` after an index prefix (R150, R161, R166). -/
def decodeXy0 (i : Index) (op b1 b2 : Byte) : Instr :=
  let main := decodeMain i.pass op b1 b2
  match fieldZ op with
  | 1 =>
    if fieldQ op = 1 then i.pick (.addIxPp (IxPair.ofCode (fieldP op))) (.addIyPp (IxPair.ofCode (fieldP op)))
    else if fieldP op = 2 then i.pick (.ldIxNn (joinBytes b2 b1)) (.ldIyNn (joinBytes b2 b1))
    else main
  | 2 =>
    match fieldY op with
    | 4 => i.pick (.ldMemIx (joinBytes b2 b1)) (.ldMemIy (joinBytes b2 b1))
    | 5 => i.pick (.ldIxMem (joinBytes b2 b1)) (.ldIyMem (joinBytes b2 b1))
    | _ => main
  | 3 =>
    match fieldY op with
    | 4 => i.pick .incIx .incIy
    | 5 => i.pick .decIx .decIy
    | _ => main
  | 4 =>
    match fieldY op with
    | 4 => i.pick .incIxh .incIyh
    | 5 => i.pick .incIxl .incIyl
    | 6 => i.pick (.incIxd b1) (.incIyd b1)
    | _ => main
  | 5 =>
    match fieldY op with
    | 4 => i.pick .decIxh .decIyh
    | 5 => i.pick .decIxl .decIyl
    | 6 => i.pick (.decIxd b1) (.decIyd b1)
    | _ => main
  | 6 =>
    match fieldY op with
    | 4 => i.pick (.ldIxhN b1) (.ldIyhN b1)
    | 5 => i.pick (.ldIxlN b1) (.ldIylN b1)
    | 6 => i.pick (.ldIxdN b1 b2) (.ldIydN b1 b2)
    | _ => main
  | _ => main

/-- The quarter `x = 1` after an index prefix (R150, R161, R166): with an indexed memory operand `H` and `L` stay. -/
def decodeXy1 (i : Index) (op b1 b2 : Byte) : Instr :=
  let y := fieldY op
  let z := fieldZ op
  if y = 6 then
    if z = 6 then decodeMain i.pass op b1 b2
    else i.pick (.ldIxdR (Reg8.ofCode z) b1) (.ldIydR (Reg8.ofCode z) b1)
  else if z = 6 then i.pick (.ldRIxd (Reg8.ofCode y) b1) (.ldRIyd (Reg8.ofCode y) b1)
  else if y = 4 ∨ y = 5 then
    i.pick (.ldIxHalfR (Half.ofReg y) (XReg8.ofCode z)) (.ldIyHalfR (Half.ofReg y) (XReg8.ofCode z))
  else if z = 4 ∨ z = 5 then
    i.pick (.ldRIxHalf (Reg8.ofCode y) (Half.ofReg z)) (.ldRIyHalf (Reg8.ofCode y) (Half.ofReg z))
  else decodeMain i.pass op b1 b2

/-- The quarter `x = 2` after an index prefix (R150, R161, R166). -/
def decodeXy2 (i : Index) (op b1 b2 : Byte) : Instr :=
  match fieldZ op with
  | 4 => decodeAluXh i (fieldY op)
  | 5 => decodeAluXl i (fieldY op)
  | 6 => decodeAluXyd i (fieldY op) b1
  | _ => decodeMain i.pass op b1 b2

/-- The quarter `x = 3` after an index prefix (R150, R166). -/
def decodeXy3 (i : Index) (op b1 b2 : Byte) : Instr :=
  let main := decodeMain i.pass op b1 b2
  match fieldZ op, fieldY op with
  | 1, 4 => i.pick .popIx .popIy
  | 1, 5 => i.pick .jpIx .jpIy
  | 1, 7 => i.pick .ldSpIx .ldSpIy
  | 3, 4 => i.pick .exSpIx .exSpIy
  | 5, 4 => i.pick .pushIx .pushIy
  | _, _ => main

/-- The main table after an index prefix (R150). -/
def decodeXy (i : Index) (op b1 b2 : Byte) : Instr :=
  match fieldX op with
  | 0 => decodeXy0 i op b1 b2
  | 1 => decodeXy1 i op b1 b2
  | 2 => decodeXy2 i op b1 b2
  | _ => decodeXy3 i op b1 b2

/-! ### The index-bit table (R151, R163) -/

/-- `ROT[y] (ii+d)` (R374). -/
def decodeRotXyd (i : Index) (y : Nat) (d : Byte) : Instr :=
  match y with
  | 0 => i.pick (.rlcIxd d) (.rlcIyd d) | 1 => i.pick (.rrcIxd d) (.rrcIyd d)
  | 2 => i.pick (.rlIxd d) (.rlIyd d) | 3 => i.pick (.rrIxd d) (.rrIyd d)
  | 4 => i.pick (.slaIxd d) (.slaIyd d) | 5 => i.pick (.sraIxd d) (.sraIyd d)
  | 6 => i.pick (.sllIxd d) (.sllIyd d) | _ => i.pick (.srlIxd d) (.srlIyd d)

/-- `ROT[y] (ii+d),r` (R163, R374). -/
def decodeRotXydR (i : Index) (y : Nat) (d : Byte) (r : Reg8) : Instr :=
  match y with
  | 0 => i.pick (.rlcIxdR d r) (.rlcIydR d r) | 1 => i.pick (.rrcIxdR d r) (.rrcIydR d r)
  | 2 => i.pick (.rlIxdR d r) (.rlIydR d r) | 3 => i.pick (.rrIxdR d r) (.rrIydR d r)
  | 4 => i.pick (.slaIxdR d r) (.slaIydR d r) | 5 => i.pick (.sraIxdR d r) (.sraIydR d r)
  | 6 => i.pick (.sllIxdR d r) (.sllIydR d r) | _ => i.pick (.srlIxdR d r) (.srlIydR d r)

/-- The index-bit table (R151, R163): the displacement `d` is the third byte, the opcode the fourth. -/
def decodeXyCb (i : Index) (d op : Byte) : Instr :=
  let b := code3 (fieldY op)
  let r := Reg8.ofCode (fieldZ op)
  match fieldX op with
  | 0 => if fieldZ op = 6 then decodeRotXyd i (fieldY op) d else decodeRotXydR i (fieldY op) d r
  | 1 => i.pick (.bitIxd b d (code3 (fieldZ op))) (.bitIyd b d (code3 (fieldZ op)))
  | 2 => if fieldZ op = 6 then i.pick (.resIxd b d) (.resIyd b d) else i.pick (.resIxdR b d r) (.resIydR b d r)
  | _ => if fieldZ op = 6 then i.pick (.setIxd b d) (.setIyd b d) else i.pick (.setIxdR b d r) (.setIydR b d r)

/-! ### The whole decoder (R141) -/

/-- The bytes after an index prefix (R141): another index prefix or 0xED leaves the prefix an instruction by itself
(R152). -/
def decodeIndexed (i : Index) (b1 b2 b3 : Byte) : Instr :=
  if b1 = 0xDD then i.pick .aloneDdDd .aloneFdDd
  else if b1 = 0xED then i.pick .aloneDdEd .aloneFdEd
  else if b1 = 0xFD then i.pick .aloneDdFd .aloneFdFd
  else if b1 = 0xCB then decodeXyCb i b2 b3
  else decodeXy i b1 b2 b3

/-- The instruction that the four bytes at `PC` begin with (R141). Every sequence is an instruction (R160). -/
def decode4 (b0 b1 b2 b3 : Byte) : Instr :=
  if b0 = 0xCB then decodeCb b1
  else if b0 = 0xED then decodeEd b1 b2 b3
  else if b0 = 0xDD then decodeIndexed .ix b1 b2 b3
  else if b0 = 0xFD then decodeIndexed .iy b1 b2 b3
  else decodeMain .none b0 b1 b2

/-! ### The encoder -/

/-- The bytes of an instruction, in the order they are stored (R140, R143). -/
def encode (i : Instr) : List Byte :=
  match i with
  | .nop p => p.bytes ++ [0x00]
  | .exAfAf p => p.bytes ++ [0x08]
  | .djnz p e => p.bytes ++ [0x10, e]
  | .jrE p e => p.bytes ++ [0x18, e]
  | .jrCcE p cc e => p.bytes ++ [opXYZ 0 (4 + cc.code) 0, e]
  | .ldDdNn p q nn => p.bytes ++ [BitVec.ofNat 8 (16 * q.code + 1), lo nn, hi nn]
  | .addHlSs q => [BitVec.ofNat 8 (16 * q.code + 9)]
  | .ldBcA p => p.bytes ++ [0x02]
  | .ldDeA p => p.bytes ++ [0x12]
  | .ldNnHl nn => [0x22, lo nn, hi nn]
  | .ldNnA p nn => p.bytes ++ [0x32, lo nn, hi nn]
  | .ldABc p => p.bytes ++ [0x0A]
  | .ldADe p => p.bytes ++ [0x1A]
  | .ldHlNn nn => [0x2A, lo nn, hi nn]
  | .ldANn p nn => p.bytes ++ [0x3A, lo nn, hi nn]
  | .incSs p q => p.bytes ++ [BitVec.ofNat 8 (16 * q.code + 3)]
  | .decSs p q => p.bytes ++ [BitVec.ofNat 8 (16 * q.code + 11)]
  | .incR p r => p.bytes ++ [opXYZ 0 r.code 4]
  | .decR p r => p.bytes ++ [opXYZ 0 r.code 5]
  | .ldRN p r n => p.bytes ++ [opXYZ 0 r.code 6, n]
  | .ldHlN n => [0x36, n]
  | .rlca p => p.bytes ++ [0x07]
  | .rrca p => p.bytes ++ [0x0F]
  | .rla p => p.bytes ++ [0x17]
  | .rra p => p.bytes ++ [0x1F]
  | .daa p => p.bytes ++ [0x27]
  | .cpl p => p.bytes ++ [0x2F]
  | .scf p => p.bytes ++ [0x37]
  | .ccf p => p.bytes ++ [0x3F]
  | .ldRR p dst r => p.bytes ++ [opXYZ 1 dst.code r.code]
  | .ldRHl r => [opXYZ 1 r.code 6]
  | .ldHlR r => [opXYZ 1 6 r.code]
  | .halt p => p.bytes ++ [0x76]
  | .addAR p r => p.bytes ++ [opXYZ 2 0 r.code]
  | .addAN p n => p.bytes ++ [opXYZ 3 0 6, n]
  | .adcAR p r => p.bytes ++ [opXYZ 2 1 r.code]
  | .adcAN p n => p.bytes ++ [opXYZ 3 1 6, n]
  | .subR p r => p.bytes ++ [opXYZ 2 2 r.code]
  | .subN p n => p.bytes ++ [opXYZ 3 2 6, n]
  | .sbcAR p r => p.bytes ++ [opXYZ 2 3 r.code]
  | .sbcAN p n => p.bytes ++ [opXYZ 3 3 6, n]
  | .andR p r => p.bytes ++ [opXYZ 2 4 r.code]
  | .andN p n => p.bytes ++ [opXYZ 3 4 6, n]
  | .xorR p r => p.bytes ++ [opXYZ 2 5 r.code]
  | .xorN p n => p.bytes ++ [opXYZ 3 5 6, n]
  | .orR p r => p.bytes ++ [opXYZ 2 6 r.code]
  | .orN p n => p.bytes ++ [opXYZ 3 6 6, n]
  | .cpR p r => p.bytes ++ [opXYZ 2 7 r.code]
  | .cpN p n => p.bytes ++ [opXYZ 3 7 6, n]
  | .retCc p cc => p.bytes ++ [opXYZ 3 cc.code 0]
  | .popQq p q => p.bytes ++ [BitVec.ofNat 8 (192 + 16 * q.code + 1)]
  | .ret p => p.bytes ++ [0xC9]
  | .exx p => p.bytes ++ [0xD9]
  | .jpCcNn p cc nn => p.bytes ++ [opXYZ 3 cc.code 2, lo nn, hi nn]
  | .jpNn p nn => p.bytes ++ [0xC3, lo nn, hi nn]
  | .outNA p n => p.bytes ++ [0xD3, n]
  | .inAN p n => p.bytes ++ [0xDB, n]
  | .exDeHl p => p.bytes ++ [0xEB]
  | .di p => p.bytes ++ [0xF3]
  | .ei p => p.bytes ++ [0xFB]
  | .callCcNn p cc nn => p.bytes ++ [opXYZ 3 cc.code 4, lo nn, hi nn]
  | .pushQq p q => p.bytes ++ [BitVec.ofNat 8 (192 + 16 * q.code + 5)]
  | .callNn p nn => p.bytes ++ [0xCD, lo nn, hi nn]
  | .rst p t => p.bytes ++ [opXYZ 3 t.val 7]
  | .rlcR r => [0xCB, opXYZ 0 0 r.code]
  | .rrcR r => [0xCB, opXYZ 0 1 r.code]
  | .rlR r => [0xCB, opXYZ 0 2 r.code]
  | .rrR r => [0xCB, opXYZ 0 3 r.code]
  | .slaR r => [0xCB, opXYZ 0 4 r.code]
  | .sraR r => [0xCB, opXYZ 0 5 r.code]
  | .sllR r => [0xCB, opXYZ 0 6 r.code]
  | .srlR r => [0xCB, opXYZ 0 7 r.code]
  | .bitR b r => [0xCB, opXYZ 1 b.val r.code]
  | .bitHl b => [0xCB, opXYZ 1 b.val 6]
  | .resR b r => [0xCB, opXYZ 2 b.val r.code]
  | .resHl b => [0xCB, opXYZ 2 b.val 6]
  | .setR b r => [0xCB, opXYZ 3 b.val r.code]
  | .setHl b => [0xCB, opXYZ 3 b.val 6]
  | .inRC r => [0xED, opXYZ 1 r.code 0]
  | .outCR r => [0xED, opXYZ 1 r.code 1]
  | .sbcHlSs q => [0xED, BitVec.ofNat 8 (64 + 16 * q.code + 2)]
  | .adcHlSs q => [0xED, BitVec.ofNat 8 (64 + 16 * q.code + 10)]
  | .ldMemDd q nn => [0xED, BitVec.ofNat 8 (64 + 16 * q.code + 3), lo nn, hi nn]
  | .ldDdMem q nn => [0xED, BitVec.ofNat 8 (64 + 16 * q.code + 11), lo nn, hi nn]
  | .neg y => [0xED, opXYZ 1 y.val 4]
  | .retn y => [0xED, opXYZ 1 y.val 5]
  | .im0 y => [0xED, opXYZ 1 y.val 6]
  | .im1 y => [0xED, opXYZ 1 y.val 6]
  | .im2 y => [0xED, opXYZ 1 y.val 6]
  | .nopEd op => [0xED, op]
  | .ldIxNn nn => [0xDD, 0x21, lo nn, hi nn]
  | .ldMemIx nn => [0xDD, 0x22, lo nn, hi nn]
  | .ldIxMem nn => [0xDD, 0x2A, lo nn, hi nn]
  | .addIxPp q => [0xDD, BitVec.ofNat 8 (16 * q.code + 9)]
  | .ldIxhN n => [0xDD, 0x26, n]
  | .ldIxlN n => [0xDD, 0x2E, n]
  | .incIxd d => [0xDD, opXYZ 0 6 4, d]
  | .decIxd d => [0xDD, opXYZ 0 6 5, d]
  | .ldIxdN d n => [0xDD, 0x36, d, n]
  | .ldRIxd r d => [0xDD, opXYZ 1 r.code 6, d]
  | .ldIxdR r d => [0xDD, opXYZ 1 6 r.code, d]
  | .ldIxHalfR h r => [0xDD, opXYZ 1 (4 + h.code) r.code]
  | .ldRIxHalf r h => [0xDD, opXYZ 1 r.code (4 + h.code)]
  | .addAIxd d => [0xDD, opXYZ 2 0 6, d]
  | .adcAIxd d => [0xDD, opXYZ 2 1 6, d]
  | .subIxd d => [0xDD, opXYZ 2 2 6, d]
  | .sbcAIxd d => [0xDD, opXYZ 2 3 6, d]
  | .andIxd d => [0xDD, opXYZ 2 4 6, d]
  | .xorIxd d => [0xDD, opXYZ 2 5 6, d]
  | .orIxd d => [0xDD, opXYZ 2 6 6, d]
  | .cpIxd d => [0xDD, opXYZ 2 7 6, d]
  | .ldIyNn nn => [0xFD, 0x21, lo nn, hi nn]
  | .ldMemIy nn => [0xFD, 0x22, lo nn, hi nn]
  | .ldIyMem nn => [0xFD, 0x2A, lo nn, hi nn]
  | .addIyPp q => [0xFD, BitVec.ofNat 8 (16 * q.code + 9)]
  | .ldIyhN n => [0xFD, 0x26, n]
  | .ldIylN n => [0xFD, 0x2E, n]
  | .incIyd d => [0xFD, opXYZ 0 6 4, d]
  | .decIyd d => [0xFD, opXYZ 0 6 5, d]
  | .ldIydN d n => [0xFD, 0x36, d, n]
  | .ldRIyd r d => [0xFD, opXYZ 1 r.code 6, d]
  | .ldIydR r d => [0xFD, opXYZ 1 6 r.code, d]
  | .ldIyHalfR h r => [0xFD, opXYZ 1 (4 + h.code) r.code]
  | .ldRIyHalf r h => [0xFD, opXYZ 1 r.code (4 + h.code)]
  | .addAIyd d => [0xFD, opXYZ 2 0 6, d]
  | .adcAIyd d => [0xFD, opXYZ 2 1 6, d]
  | .subIyd d => [0xFD, opXYZ 2 2 6, d]
  | .sbcAIyd d => [0xFD, opXYZ 2 3 6, d]
  | .andIyd d => [0xFD, opXYZ 2 4 6, d]
  | .xorIyd d => [0xFD, opXYZ 2 5 6, d]
  | .orIyd d => [0xFD, opXYZ 2 6 6, d]
  | .cpIyd d => [0xFD, opXYZ 2 7 6, d]
  | .rlcIxd d => [0xDD, 0xCB, d, opXYZ 0 0 6]
  | .rlcIxdR d r => [0xDD, 0xCB, d, opXYZ 0 0 r.code]
  | .rrcIxd d => [0xDD, 0xCB, d, opXYZ 0 1 6]
  | .rrcIxdR d r => [0xDD, 0xCB, d, opXYZ 0 1 r.code]
  | .rlIxd d => [0xDD, 0xCB, d, opXYZ 0 2 6]
  | .rlIxdR d r => [0xDD, 0xCB, d, opXYZ 0 2 r.code]
  | .rrIxd d => [0xDD, 0xCB, d, opXYZ 0 3 6]
  | .rrIxdR d r => [0xDD, 0xCB, d, opXYZ 0 3 r.code]
  | .slaIxd d => [0xDD, 0xCB, d, opXYZ 0 4 6]
  | .slaIxdR d r => [0xDD, 0xCB, d, opXYZ 0 4 r.code]
  | .sraIxd d => [0xDD, 0xCB, d, opXYZ 0 5 6]
  | .sraIxdR d r => [0xDD, 0xCB, d, opXYZ 0 5 r.code]
  | .sllIxd d => [0xDD, 0xCB, d, opXYZ 0 6 6]
  | .sllIxdR d r => [0xDD, 0xCB, d, opXYZ 0 6 r.code]
  | .srlIxd d => [0xDD, 0xCB, d, opXYZ 0 7 6]
  | .srlIxdR d r => [0xDD, 0xCB, d, opXYZ 0 7 r.code]
  | .bitIxd b d z => [0xDD, 0xCB, d, opXYZ 1 b.val z.val]
  | .resIxd b d => [0xDD, 0xCB, d, opXYZ 2 b.val 6]
  | .resIxdR b d r => [0xDD, 0xCB, d, opXYZ 2 b.val r.code]
  | .setIxd b d => [0xDD, 0xCB, d, opXYZ 3 b.val 6]
  | .setIxdR b d r => [0xDD, 0xCB, d, opXYZ 3 b.val r.code]
  | .rlcIyd d => [0xFD, 0xCB, d, opXYZ 0 0 6]
  | .rlcIydR d r => [0xFD, 0xCB, d, opXYZ 0 0 r.code]
  | .rrcIyd d => [0xFD, 0xCB, d, opXYZ 0 1 6]
  | .rrcIydR d r => [0xFD, 0xCB, d, opXYZ 0 1 r.code]
  | .rlIyd d => [0xFD, 0xCB, d, opXYZ 0 2 6]
  | .rlIydR d r => [0xFD, 0xCB, d, opXYZ 0 2 r.code]
  | .rrIyd d => [0xFD, 0xCB, d, opXYZ 0 3 6]
  | .rrIydR d r => [0xFD, 0xCB, d, opXYZ 0 3 r.code]
  | .slaIyd d => [0xFD, 0xCB, d, opXYZ 0 4 6]
  | .slaIydR d r => [0xFD, 0xCB, d, opXYZ 0 4 r.code]
  | .sraIyd d => [0xFD, 0xCB, d, opXYZ 0 5 6]
  | .sraIydR d r => [0xFD, 0xCB, d, opXYZ 0 5 r.code]
  | .sllIyd d => [0xFD, 0xCB, d, opXYZ 0 6 6]
  | .sllIydR d r => [0xFD, 0xCB, d, opXYZ 0 6 r.code]
  | .srlIyd d => [0xFD, 0xCB, d, opXYZ 0 7 6]
  | .srlIydR d r => [0xFD, 0xCB, d, opXYZ 0 7 r.code]
  | .bitIyd b d z => [0xFD, 0xCB, d, opXYZ 1 b.val z.val]
  | .resIyd b d => [0xFD, 0xCB, d, opXYZ 2 b.val 6]
  | .resIydR b d r => [0xFD, 0xCB, d, opXYZ 2 b.val r.code]
  | .setIyd b d => [0xFD, 0xCB, d, opXYZ 3 b.val 6]
  | .setIydR b d r => [0xFD, 0xCB, d, opXYZ 3 b.val r.code]
  | .incHl => [opXYZ 0 6 4]
  | .decHl => [opXYZ 0 6 5]
  | .addAHl => [opXYZ 2 0 6]
  | .adcAHl => [opXYZ 2 1 6]
  | .subHl => [opXYZ 2 2 6]
  | .sbcAHl => [opXYZ 2 3 6]
  | .andHl => [opXYZ 2 4 6]
  | .xorHl => [opXYZ 2 5 6]
  | .orHl => [opXYZ 2 6 6]
  | .cpHl => [opXYZ 2 7 6]
  | .jpHl => [0xE9]
  | .ldSpHl => [0xF9]
  | .prefixCb => [0xCB]
  | .exSpHl => [0xE3]
  | .prefixDd => [0xDD]
  | .prefixEd => [0xED]
  | .prefixFd => [0xFD]
  | .rlcHl => [0xCB, opXYZ 0 0 6]
  | .rrcHl => [0xCB, opXYZ 0 1 6]
  | .rlHl => [0xCB, opXYZ 0 2 6]
  | .rrHl => [0xCB, opXYZ 0 3 6]
  | .slaHl => [0xCB, opXYZ 0 4 6]
  | .sraHl => [0xCB, opXYZ 0 5 6]
  | .sllHl => [0xCB, opXYZ 0 6 6]
  | .srlHl => [0xCB, opXYZ 0 7 6]
  | .inC => [0xED, 0x70]
  | .outC0 => [0xED, 0x71]
  | .reti => [0xED, 0x4D]
  | .ldIA => [0xED, 0x47]
  | .ldRA => [0xED, 0x4F]
  | .ldAI => [0xED, 0x57]
  | .ldAR => [0xED, 0x5F]
  | .rrd => [0xED, 0x67]
  | .rld => [0xED, 0x6F]
  | .ldi => [0xED, 0xA0]
  | .cpi => [0xED, 0xA1]
  | .ini => [0xED, 0xA2]
  | .outi => [0xED, 0xA3]
  | .ldd => [0xED, 0xA8]
  | .cpd => [0xED, 0xA9]
  | .ind => [0xED, 0xAA]
  | .outd => [0xED, 0xAB]
  | .ldir => [0xED, 0xB0]
  | .cpir => [0xED, 0xB1]
  | .inir => [0xED, 0xB2]
  | .otir => [0xED, 0xB3]
  | .lddr => [0xED, 0xB8]
  | .cpdr => [0xED, 0xB9]
  | .indr => [0xED, 0xBA]
  | .otdr => [0xED, 0xBB]
  | .incIx => [0xDD, 0x23]
  | .decIx => [0xDD, 0x2B]
  | .incIxh => [0xDD, opXYZ 0 4 4]
  | .decIxh => [0xDD, opXYZ 0 4 5]
  | .incIxl => [0xDD, opXYZ 0 5 4]
  | .decIxl => [0xDD, opXYZ 0 5 5]
  | .addAIxh => [0xDD, opXYZ 2 0 4]
  | .addAIxl => [0xDD, opXYZ 2 0 5]
  | .adcAIxh => [0xDD, opXYZ 2 1 4]
  | .adcAIxl => [0xDD, opXYZ 2 1 5]
  | .subIxh => [0xDD, opXYZ 2 2 4]
  | .subIxl => [0xDD, opXYZ 2 2 5]
  | .sbcAIxh => [0xDD, opXYZ 2 3 4]
  | .sbcAIxl => [0xDD, opXYZ 2 3 5]
  | .andIxh => [0xDD, opXYZ 2 4 4]
  | .andIxl => [0xDD, opXYZ 2 4 5]
  | .xorIxh => [0xDD, opXYZ 2 5 4]
  | .xorIxl => [0xDD, opXYZ 2 5 5]
  | .orIxh => [0xDD, opXYZ 2 6 4]
  | .orIxl => [0xDD, opXYZ 2 6 5]
  | .cpIxh => [0xDD, opXYZ 2 7 4]
  | .cpIxl => [0xDD, opXYZ 2 7 5]
  | .popIx => [0xDD, 0xE1]
  | .pushIx => [0xDD, 0xE5]
  | .exSpIx => [0xDD, 0xE3]
  | .jpIx => [0xDD, 0xE9]
  | .ldSpIx => [0xDD, 0xF9]
  | .prefixDdCb => [0xDD, 0xCB]
  | .aloneDdDd => [0xDD]
  | .aloneDdEd => [0xDD]
  | .aloneDdFd => [0xDD]
  | .incIy => [0xFD, 0x23]
  | .decIy => [0xFD, 0x2B]
  | .incIyh => [0xFD, opXYZ 0 4 4]
  | .decIyh => [0xFD, opXYZ 0 4 5]
  | .incIyl => [0xFD, opXYZ 0 5 4]
  | .decIyl => [0xFD, opXYZ 0 5 5]
  | .addAIyh => [0xFD, opXYZ 2 0 4]
  | .addAIyl => [0xFD, opXYZ 2 0 5]
  | .adcAIyh => [0xFD, opXYZ 2 1 4]
  | .adcAIyl => [0xFD, opXYZ 2 1 5]
  | .subIyh => [0xFD, opXYZ 2 2 4]
  | .subIyl => [0xFD, opXYZ 2 2 5]
  | .sbcAIyh => [0xFD, opXYZ 2 3 4]
  | .sbcAIyl => [0xFD, opXYZ 2 3 5]
  | .andIyh => [0xFD, opXYZ 2 4 4]
  | .andIyl => [0xFD, opXYZ 2 4 5]
  | .xorIyh => [0xFD, opXYZ 2 5 4]
  | .xorIyl => [0xFD, opXYZ 2 5 5]
  | .orIyh => [0xFD, opXYZ 2 6 4]
  | .orIyl => [0xFD, opXYZ 2 6 5]
  | .cpIyh => [0xFD, opXYZ 2 7 4]
  | .cpIyl => [0xFD, opXYZ 2 7 5]
  | .popIy => [0xFD, 0xE1]
  | .pushIy => [0xFD, 0xE5]
  | .exSpIy => [0xFD, 0xE3]
  | .jpIy => [0xFD, 0xE9]
  | .ldSpIy => [0xFD, 0xF9]
  | .prefixFdCb => [0xFD, 0xCB]
  | .aloneFdDd => [0xFD]
  | .aloneFdEd => [0xFD]
  | .aloneFdFd => [0xFD]

/-- The byte that has to follow an instruction for its bytes to mean it: only a lone index prefix has one (R152). -/
def lookahead (i : Instr) : List Byte :=
  match i with
  | .aloneDdDd | .aloneFdDd => [0xDD]
  | .aloneDdEd | .aloneFdEd => [0xED]
  | .aloneDdFd | .aloneFdFd => [0xFD]
  | _ => []

/-- The length of an instruction in bytes (R140). -/
def instrLength (i : Instr) : Nat := (encode i).length

/-- Is `b` one of the four prefix bytes? -/
def isPrefixByte (b : Byte) : Bool := decide (b = 0xCB ∨ b = 0xED ∨ b = 0xDD ∨ b = 0xFD)

/-- How far an instruction advances `R`: 2 with one or two prefix bytes, else 1; a lone index prefix counts 1
(R18, R152, R153). -/
def refreshCount (i : Instr) : Nat :=
  match encode i with
  | b :: _ :: _ => if isPrefixByte b then 2 else 1
  | _ => 1

/-- Why a list of bytes is no instruction. -/
inductive DecodeError where
  /-- the list ends inside the instruction, or before the byte that R152 looks at -/
  | truncated
  deriving DecidableEq, Repr

/-- The first instruction of a list of bytes and the bytes after it. The one rejection is a list that ends too soon:
no byte sequence is illegal (R160). -/
def decode (bytes : List Byte) : Except DecodeError (Instr × List Byte) :=
  let i := decode4 (bytes.getD 0 0) (bytes.getD 1 0) (bytes.getD 2 0) (bytes.getD 3 0)
  if instrLength i + (lookahead i).length ≤ bytes.length then .ok (i, bytes.drop (instrLength i))
  else .error .truncated

/-! ### Words as spec/opcode_table.json numbers them -/

/-- The `n` bytes of `w`, the topmost first: the table reads an encoding as one number whose last byte is the least
significant (log 7). -/
def bytesOfWord (n w : Nat) : List Byte :=
  (List.range n).map (fun k => BitVec.ofNat 8 (w / 256 ^ (n - 1 - k)))

/-- `bs` followed by zeros, four bytes in all. -/
def padBytes (bs : List Byte) : List Byte := (bs ++ [0, 0, 0, 0]).take 4

/-- The instruction four bytes begin with. -/
def decodeBytes (bs : List Byte) : Instr :=
  decode4 (bs.getD 0 0) (bs.getD 1 0) (bs.getD 2 0) (bs.getD 3 0)

/-- The four bytes of an instruction word of `nbits` bits: the topmost byte first, as the table numbers its words;
where that is not one instruction of `nbits` bits, the other byte order (log 7). -/
def layoutWord (nbits w : Nat) : List Byte :=
  let n := min (nbits / 8) 4
  let top := bytesOfWord n w
  if instrLength (decodeBytes (padBytes top)) = n then padBytes top else padBytes top.reverse

/-- The instruction the decoder reads from an instruction word of the table. -/
def decodeTableWord (nbits w : Nat) : Option Instr := some (decodeBytes (layoutWord nbits w))

end Sys2Proof
end

