-- ==== Sys2Proof/Machine/Fetch.lean ====
section
/-! DEFINITION. Fetching an instruction (R25, R140, R141, R320) and placing one where the next fetch finds it. -/

namespace Sys2Proof.Machine

/-- The bytes that a bare prefix has already supplied; none in the main table (R141, log 8). -/
def Table.bytes (t : Table) : List Byte :=
  match t with
  | .main => []
  | .cb => [0xCB]
  | .ed => [0xED]
  | .dd => [0xDD]
  | .fd => [0xFD]
  | .ddcb => [0xDD, 0xCB]
  | .fdcb => [0xFD, 0xCB]

/-- The four bytes the next instruction is read from. Reading more bytes than the instruction has changes nothing:
reads have no side effect (R90; log 21). -/
def State.fetchBytes (s : State) : List Byte :=
  s.table.bytes ++ [s.busRead s.cpu.pc, s.busRead (s.cpu.pc + 1), s.busRead (s.cpu.pc + 2), s.busRead (s.cpu.pc + 3)]

/-- The instruction at `PC` (R141). -/
def State.fetchInstr (s : State) : Instr := decodeBytes s.fetchBytes

/-- The state in which instruction `i`, just fetched, executes: `PC` past its bytes, `R` advanced (R18, R25, R320). -/
def State.fetched (s : State) (i : Instr) : State :=
  { s with
    cpu := { s.cpu with
      pc := s.cpu.pc + BitVec.ofNat 16 (instrLength i - s.table.bytes.length)
      r := incR s.cpu.r (refreshCount i) }
    table := .main }

/-- Does the bus read `addr` from ROM or RAM, so that a byte can be placed there? -/
def storable (addr : Word) : Bool :=
  match readTarget addr with
  | .rom _ | .ram _ => true
  | .in0 | .in1 | .dip | .unmapped => false

/-- The machine with byte `v` placed in the ROM image or in RAM at `addr`, from outside the machine (log 6). -/
def State.placeByte (s : State) (addr : Word) (v : Byte) : State :=
  match readTarget addr with
  | .rom k => { s with roms := { s.roms with prog := s.roms.prog.write k v } }
  | .ram k => { s with bus := { s.bus with ram := s.bus.ram.write k v } }
  | .in0 | .in1 | .dip | .unmapped => s

/-- The machine with the bytes placed from `addr` upward. -/
def State.placeBytes (s : State) (addr : Word) (bs : List Byte) : State :=
  match bs with
  | [] => s
  | v :: rest => (s.placeByte addr v).placeBytes (addr + 1) rest

/-- Can four bytes be placed at `PC`? -/
def State.canPlace (s : State) : Bool :=
  storable s.cpu.pc && storable (s.cpu.pc + 1) && storable (s.cpu.pc + 2) && storable (s.cpu.pc + 3)

/-- Awake, in the main table, with `PC` where four bytes can be placed: as it is, or 0x0000 where it points at a
device or at nothing (log 6). -/
def State.readyToFetch (s : State) : State :=
  { s with
    cpu := { s.cpu with halted := false, pc := if s.canPlace then s.cpu.pc else 0 }
    table := .main }

/-- The machine with the instruction word placed where the next step fetches (log 6). -/
def State.loadWord (s : State) (nbits w : Nat) : State :=
  s.readyToFetch.placeBytes s.readyToFetch.cpu.pc (layoutWord nbits w)

end Sys2Proof.Machine
end

