-- ==== Sys2Proof/Machine/Synth.lean ====
section
/-! DEFINITION. The audio synthesizer (R600 to R613). -/

namespace Sys2Proof.Machine

/-- `WAVETABLE[w][i]` (R605). -/
def wavetable (roms : Roms) (w i : Nat) : Int :=
  if w < 8 then (((roms.wave1.read (32 * w + i)) &&& 0x0F).toNat : Int) - 8
  else (((roms.wave2.read (32 * (w - 8) + i)) &&& 0x0F).toNat : Int) - 8

/-- The phase step of a channel: an active channel adds its frequency modulo 2^20 (R610). -/
def Channel.advance (c : Channel) : Channel :=
  if c.freq = 0 then c else { c with acc := c.acc + c.freq }

/-- What a channel that has advanced adds to the mix; an inactive one adds 0 (R610). -/
def Channel.output (c : Channel) (roms : Roms) : Int :=
  if c.freq = 0 then 0 else wavetable roms c.wave.toNat (c.acc.toNat / 32768) * (c.vol.toNat : Int)

/-- Saturation to the 16-bit signed range (R610). -/
def saturate (v : Int) : Int := if v > 32767 then 32767 else if v < -32768 then -32768 else v

/-- The three channels one sample later (R610). -/
def Audio.advance (au : Audio) : Audio :=
  { au with ch0 := au.ch0.advance, ch1 := au.ch1.advance, ch2 := au.ch2.advance }

/-- The sample that channels which have advanced give (R610, R612). -/
def Audio.sample (au : Audio) (roms : Roms) (soundEnable : Bool) : Int :=
  if au.mute ∨ soundEnable = false then 0
  else saturate ((au.ch0.output roms + au.ch1.output roms + au.ch2.output roms) * Config.audioGain)

/-- `push render_sample()` (R523, R610): the accumulators advance first, whatever `mute` is. -/
def State.pushSample (s : State) : State :=
  let au := s.audio.advance
  { s with audio := { au with pushed := au.pushed ++ [BitVec.ofInt 16 (au.sample s.roms s.bus.soundEnable)] } }

/-- `n` samples (R523). -/
def State.pushSamples (s : State) (n : Nat) : State :=
  match n with
  | 0 => s
  | k + 1 => s.pushSample.pushSamples k

end Sys2Proof.Machine
end

