-- ==== Sys2Proof/Machine/Video.lean ====
section
/-! DEFINITION. The video decoder and compositor (R560 to R590). -/

namespace Sys2Proof.Machine

/-- A colour (R566). -/
structure Rgb where
  red : Byte
  green : Byte
  blue : Byte
  deriving DecidableEq, Repr

/-- 1 or 0. -/
def bitNat (v : Byte) (i : Nat) : Nat := (bitOf v i).toNat

/-- `StripPixel(s, col, row)` for the strip whose eight bytes begin at offset `base` (R562). -/
def stripPixel {size : Nat} (rom : Rom size) (base col row : Nat) : Nat :=
  let v := rom.read (base + (7 - col))
  bitNat v (3 - row) + 2 * bitNat v (3 - row + 4)

/-- `TilePixel(t, px, py)` (R563): strip 1 is the upper half. -/
def tilePixel (roms : Roms) (t px py : Nat) : Nat :=
  if py < 4 then stripPixel roms.tile (16 * t + 8) px py else stripPixel roms.tile (16 * t) px (py - 4)

/-- The sprite strip that covers the pixel (R564). -/
def spriteStrip (px py : Nat) : Nat := (if px < 8 then 4 else 0) + (py / 4 + 1) % 4

/-- `bx[k]` (R564). -/
def stripLeft (k : Nat) : Nat := if k < 4 then 8 else 0

/-- `by[k]` (R564). -/
def stripTop (k : Nat) : Nat :=
  match k % 4 with
  | 0 => 12 | 1 => 0 | 2 => 4 | _ => 8

/-- `SpritePixel(n, px, py)` (R564). -/
def spritePixel (roms : Roms) (n px py : Nat) : Nat :=
  let k := spriteStrip px py
  stripPixel roms.sprite (64 * n + 8 * k) (px - stripLeft k) (py - stripTop k)

/-- `Rgb(c)` (R566). -/
def rgbOf (c : Byte) : Rgb :=
  { red := BitVec.ofNat 8 (0x21 * bitNat c 0 + 0x47 * bitNat c 1 + 0x97 * bitNat c 2)
    green := BitVec.ofNat 8 (0x21 * bitNat c 3 + 0x47 * bitNat c 4 + 0x97 * bitNat c 5)
    blue := BitVec.ofNat 8 (0x51 * bitNat c 6 + 0xAE * bitNat c 7) }

/-- `Colour(a, idx)` (R567). -/
def colour (roms : Roms) (a : Byte) (idx : Nat) : Rgb :=
  let pal := (a &&& 0x3F).toNat
  let e := (roms.palette.read (4 * pal + idx) &&& 0x0F).toNat
  rgbOf (roms.color.read e)

/-- `CellOffset(tx, ty)` (R575). -/
def cellOffset (tx ty : Nat) : Nat :=
  if ty ≤ 1 then 0x3C0 + 32 * ty + (29 - tx)
  else if ty ≤ 33 then 32 * (29 - tx) + (ty - 2)
  else 32 * (ty - 34) + (29 - tx)

/-- The background pixel at column `x`, row `y` of the frame (R570, R575). -/
def State.backgroundPixel (s : State) (x y : Nat) : Rgb :=
  let o := cellOffset (x / 8) (y / 8)
  let t := (s.bus.ram.read o).toNat
  let a := s.bus.ram.read (o + 0x400)
  colour s.roms a (tilePixel s.roms t (x % 8) (y % 8))

/-- The fields of sprite `k` (R580). -/
structure SpriteFields where
  image : Nat
  flipX : Bool
  flipY : Bool
  attr : Byte
  left : Int
  top : Int
  deriving DecidableEq, Repr

/-- The fields of sprite `k`, from the last 16 bytes of RAM and the sprite-position table (R580). -/
def State.spriteFields (s : State) (k : Nat) : SpriteFields :=
  let v := s.bus.ram.read (0xFF0 + 2 * k)
  { image := v.toNat / 4
    flipX := bitOf v 1
    flipY := bitOf v 0
    attr := s.bus.ram.read (0xFF1 + 2 * k)
    left := 239 - ((s.bus.spritePos.read (2 * k)).toNat : Int)
    top := 272 - ((s.bus.spritePos.read (2 * k + 1)).toNat : Int) }

/-- The pixel sprite `k` puts at column `x`, row `y` of the frame, none where it does not reach or is transparent
(R580). -/
def State.spritePixelAt (s : State) (k x y : Nat) : Option Rgb :=
  let sp := s.spriteFields k
  let px : Int := (x : Int) - sp.left
  let py : Int := (y : Int) - sp.top
  if 0 ≤ px ∧ px ≤ 15 ∧ 0 ≤ py ∧ py ≤ 15 then
    let sx := if sp.flipX then 15 - px.toNat else px.toNat
    let sy := if sp.flipY then 15 - py.toNat else py.toNat
    let idx := spritePixel s.roms sp.image sx sy
    if idx = Config.transparentIndex then none else some (colour s.roms sp.attr idx)
  else none

/-- `frame[y][x]` (R570): the background, then the sprites from the last to sprite 0, each over what is there. -/
def State.framePixel (s : State) (x y : Nat) : Rgb :=
  (List.range Config.nSprites).reverse.foldl
    (fun below k => (s.spritePixelAt k x y).getD below) (s.backgroundPixel x y)

/-- The pixel of the finished picture: the frame, mirrored about both axes where `flip_screen` is 1 (R585). -/
def State.picturePixel (s : State) (x y : Nat) : Rgb :=
  if s.bus.flipScreen then s.framePixel (223 - x) (287 - y) else s.framePixel x y

/-- One of the three bytes of a pixel: red, green, blue (R586). -/
def Rgb.channel (p : Rgb) (c : Nat) : Byte :=
  match c with
  | 0 => p.red | 1 => p.green | _ => p.blue

/-- The size of the ScreenBuffer in bytes (R586). -/
def screenBytes : Nat := 193536

/-- The byte of the finished picture at offset `o` of the ScreenBuffer (R586). -/
def State.pictureByte (s : State) (o : Nat) : Byte :=
  (s.picturePixel (o / 3 % 224) (o / 3 / 224)).channel (o % 3)

/-- `Compose()` (R570): the whole ScreenBuffer is written. -/
def State.compose (s : State) : State := { s with screen := Memory.tabulate screenBytes s.pictureByte }

/-- The pixel of the ScreenBuffer at column `x`, row `y` (R547, R586). -/
def State.screenPixel (s : State) (x y : Nat) : Rgb :=
  let o := 3 * (224 * y + x)
  { red := s.screen.read o, green := s.screen.read (o + 1), blue := s.screen.read (o + 2) }

end Sys2Proof.Machine
end

