-- ==== Sys2Proof/Machine/Scheduler.lean ====
section
/-! DEFINITION. The frame boundary: interrupt delivery, compose, audio flush (R520 to R523, R526). -/

namespace Sys2Proof.Machine

/-- The speed multiplier as a number (R526). -/
def Speed.factor (v : Speed) : Nat :=
  match v with
  | .x1 => 1 | .x2 => 2

/-- Interrupt delivery (R521): only if `int_enable` is set. -/
def State.deliver (s : State) : State × Nat :=
  if s.bus.intEnable then s.raiseInterrupt s.bus.intVector else (s, 0)

/-- `sample_acc` with one more frame owed, before the whole samples are taken out (R523). -/
def Sched.owedUnits (c : Sched) : Nat := c.sampleAcc + Config.sampleRate * (2 / c.speed.factor)

/-- How many samples the flush pushes (R523). -/
def Sched.owedSamples (c : Sched) : Nat := c.owedUnits / (2 * Config.fps)

/-- The audio flush: the fraction stays in `sample_acc`, the whole samples are pushed (R523). -/
def State.flushAudio (s : State) : State :=
  { s with sched := { s.sched with sampleAcc := s.sched.owedUnits % (2 * Config.fps) } }.pushSamples
    s.sched.owedSamples

/-- `FrameBoundary()` (R523): interrupt, then compose, then audio; the cost is the interrupt's. -/
def State.frameBoundary (s : State) : State × Nat :=
  (s.deliver.1.compose.flushAudio, s.deliver.2)

/-- The accounting of `MachineStep` after a CPU step whose cost stands in `cycles` (R520): the frame counter grows;
where it reaches F the excess is carried and the frame boundary happens, its cost added to both. -/
def State.account (s : State) : State :=
  let fc := s.sched.frameCyc + s.cycles
  if Config.cyclesPerFrame ≤ fc then
    let t := { s with sched := { s.sched with frameCyc := fc - Config.cyclesPerFrame } }.frameBoundary
    { t.1 with
      sched := { t.1.sched with frameCyc := t.1.sched.frameCyc + t.2 }
      cycles := s.cycles + t.2 }
  else { s with sched := { s.sched with frameCyc := fc } }

end Sys2Proof.Machine
end

