-- ==== Sys2Proof/Machine/Cycle.lean ====
section
/-! DEFINITION. The CPU step and the machine step (R320, R321, R520). -/

namespace Sys2Proof.Machine

/-- Is it `EI`, with or without an index prefix? (R32, R323) -/
def isEi (i : Instr) : Bool :=
  match i with
  | .ei _ => true
  | _ => false

/-- The halted step (R321): `R` advances by 1, `ei_delay` clears, nothing else, 4 cycles. -/
def State.haltedStep (s : State) : State :=
  { s with cpu := { s.cpu with r := incR s.cpu.r 1, eiDelay := false } }.done 4

/-- The end of a CPU step: every instruction but `EI` clears `ei_delay` (R32, R320). -/
def State.endStep (s : State) (i : Instr) : State := if isEi i then s else s.setEiDelay false

/-- `CpuStep()` (R320). -/
def State.cpuStep (s : State) : Result :=
  if s.cpu.halted then .next s.haltedStep
  else
    let i := s.fetchInstr
    match exec i (s.fetched i) with
    | .next t => .next (t.endStep i)
    | .fault r => .fault r
    | .refused r => .refused r

/-- `MachineStep()` (R520): one CPU step, then the frame accounting. -/
def State.machineStep (s : State) : Result :=
  match s.cpuStep with
  | .next t => .next t.account
  | .fault r => .fault r
  | .refused r => .refused r

end Sys2Proof.Machine
end

