-- ==== Sys2Proof/Machine/Step.lean ====
section
/-! DEFINITION. One step of the machine, and the placing of an instruction where it fetches. -/

namespace Sys2Proof.Machine

/-- One machine step: `MachineStep()` of R520. -/
def step (s : State) : Host.Outcome State Fault Refusal := s.machineStep

/-- `s` with an instruction word of spec/opcode_table.json stored where `step` fetches its next instruction
(logs 6 and 7). -/
def State.withFetchWord (s : State) (nbits w : Nat) : State := s.loadWord nbits w

end Sys2Proof.Machine
end

