-- ==== Sys2Proof/Machine/HostOps.lean ====
section
/-! DEFINITION. What the host does between machine steps (R524, R540 to R548; log 19). -/

namespace Sys2Proof.Machine

/-- The power-on state of a session with these images, whose lengths their types fix (R62, R540, 93 U5). -/
def State.powerOn (roms : Roms) : State := { State.reset with roms := roms }

/-- The seven byte arrays that a host offers for a session (R540), of any lengths. -/
structure RomImages where
  prog : List Byte
  tile : List Byte
  sprite : List Byte
  color : List Byte
  palette : List Byte
  wave1 : List Byte
  wave2 : List Byte
  deriving DecidableEq, Repr

/-- "Each of an exact expected byte length": the lengths of R9. -/
abbrev RomImages.Exact (x : RomImages) : Prop :=
  x.prog.length = 16384 ∧ x.tile.length = 4096 ∧ x.sprite.length = 4096 ∧ x.color.length = 32 ∧
    x.palette.length = 256 ∧ x.wave1.length = 256 ∧ x.wave2.length = 256

/-- The images with the bytes of the arrays. -/
def RomImages.roms (x : RomImages) : Roms :=
  { prog := .ofBytes _ x.prog, tile := .ofBytes _ x.tile, sprite := .ofBytes _ x.sprite, color := .ofBytes _ x.color
    palette := .ofBytes _ x.palette, wave1 := .ofBytes _ x.wave1, wave2 := .ofBytes _ x.wave2 }

/-- Session creation (R540): the power-on state with the seven images; where a length is wrong the session is refused,
and the machine does not come into existence (93 U5). -/
def State.createSession (x : RomImages) : Option State := if x.Exact then some (State.powerOn x.roms) else none

/-- `reset()` of the CPU (R60, R61): every register that is not named keeps its value. -/
def Cpu.warmReset (c : Cpu) : Cpu :=
  { c with pc := 0, iff1 := false, iff2 := false, halted := false, im := .im0, i := 0, r := 0, eiDelay := false }

/-- `reset()` as a host operation (R545, R631): the CPU effects and nothing else; a bare prefix that was under way is
dropped with it (log 8). -/
def State.warmReset (s : State) : State := { s with cpu := s.cpu.warmReset, table := .main }

/-- The eleven input signals (R44). -/
inductive Signal where
  | up | left | right | down | rackAdvance | coin1 | coin2 | credit | boardTest | start1 | start2
  deriving DecidableEq, Repr

/-- One input latch written (R542). -/
def Inputs.set (x : Inputs) (sig : Signal) (v : Bool) : Inputs :=
  match sig with
  | .up => { x with up := v } | .left => { x with left := v } | .right => { x with right := v }
  | .down => { x with down := v } | .rackAdvance => { x with rackAdvance := v }
  | .coin1 => { x with coin1 := v } | .coin2 => { x with coin2 := v } | .credit => { x with credit := v }
  | .boardTest => { x with boardTest := v } | .start1 => { x with start1 := v } | .start2 => { x with start2 := v }

/-- Set an input signal (R542): no other effect. -/
def State.setInput (s : State) (sig : Signal) (v : Bool) : State :=
  { s with bus := { s.bus with inputs := s.bus.inputs.set sig v } }

/-- Set the speed (R543): `cycle_acc` is not rescaled. -/
def State.setSpeed (s : State) (v : Speed) : State := { s with sched := { s.sched with speed := v } }

/-- Set mute (R544). -/
def State.setMute (s : State) (v : Bool) : State := { s with audio := { s.audio with mute := v } }

/-- The debug hook (R125, R546): one RAM byte takes the sentinel, and nothing else changes (log 15). -/
def State.debugHook (s : State) : State :=
  { s with bus := { s.bus with ram := s.bus.ram.write Config.cheatOffset.toNat Config.cheatValue } }

/-- The first line of `advance` (R524): the cycles owed for `ms` milliseconds, in 1/1000 cycle. -/
def State.owe (s : State) (ms : Nat) : State :=
  { s with sched := { s.sched with
      cycleAcc := s.sched.cycleAcc + (ms * Config.clockHz * s.sched.speed.factor : Nat) } }

/-- The last line of the loop of `advance` (R524): the step's cycles are paid. -/
def State.pay (s : State) : State :=
  { s with sched := { s.sched with cycleAcc := s.sched.cycleAcc - 1000 * (s.cycles : Int) } }

/-- The loop of `advance` (R524), with a bound on the number of steps. -/
def State.runOwed (s : State) (fuel : Nat) : Result :=
  match fuel with
  | 0 => .next s
  | k + 1 =>
    if s.sched.cycleAcc < 1000 then .next s
    else
      match s.machineStep with
      | .next t => t.pay.runOwed k
      | .fault r => .fault r
      | .refused r => .refused r

/-- `advance(elapsed_ms)` (R524, R541). Every step costs at least one cycle, so there are at most as many steps as
whole cycles owed (log 20). -/
def State.advance (s : State) (ms : Nat) : Result :=
  (s.owe ms).runOwed ((s.owe ms).sched.cycleAcc / 1000).toNat

/-- Frame output: the ScreenBuffer as 193 536 bytes (R547, R586). -/
def State.screenByte (s : State) (o : Nat) : Byte := s.screen.read o

/-- Audio output: the samples pushed since power-on, oldest first, as signed numbers (R548). -/
def State.samples (s : State) : List Int := s.audio.pushed.map (fun v => v.toInt)

end Sys2Proof.Machine
end

