-- ==== Sys2Proof/Safety.lean ====
section
/-! DEFINITION. What a legal state of the machine is, what a step that does not stop is, and the terms in which
statements say what an instruction changes and what it leaves alone. -/

namespace Sys2Proof.Machine

/-- Nibble 0 of `freq[1]` and `freq[2]` does not exist and reads as 0 (R601). -/
def Audio.NibblesAbsent (au : Audio) : Prop :=
  au.ch1.freq.extractLsb' 0 4 = 0 ∧ au.ch2.freq.extractLsb' 0 4 = 0

/-- The ROM images are canonical and of the lengths of R9; their types carry it (`Roms.wf`). -/
def Roms.WF (r : Roms) : Prop :=
  r.prog.cells.wfBelow 16384 ∧ r.tile.cells.wfBelow 4096 ∧ r.sprite.cells.wfBelow 4096 ∧ r.color.cells.wfBelow 32
    ∧ r.palette.cells.wfBelow 256 ∧ r.wave1.cells.wfBelow 256 ∧ r.wave2.cells.wfBelow 256

/-- The invariant of the machine between two steps: every memory is in its canonical form and inside its device
(R9, R40, R41, R586), the absent nibbles are 0 (R601), `sample_acc < 2 * FPS` (R50), the frame counter is below F
(R520), and no bare prefix is under way (log 8). -/
structure State.Inv (s : State) : Prop where
  ram : s.bus.ram.wfBelow 4096
  sprites : s.bus.spritePos.wfBelow 16
  screen : s.screen.wfBelow 193536
  roms : s.roms.WF
  nibbles : s.audio.NibblesAbsent
  sampleAcc : s.sched.sampleAcc < 2 * Config.fps
  frameCyc : s.sched.frameCyc < Config.cyclesPerFrame
  table : s.table = .main

/-- A step from `s` goes on to `t`: it neither faults nor is refused. -/
def StepsTo (s t : State) : Prop := step s = .next t

/-! ### What an instruction leaves alone -/

/-- `t` is `s` but for the CPU and the cycles charged, and every byte of memory reads as before. -/
def CpuOnly (s t : State) (n : Nat) : Prop :=
  t = { s with cpu := t.cpu, cycles := n } ∧ ∀ a : Word, t.busRead a = s.busRead a

/-- What an address `a` that read `old` reads once `v` has been written at `addr`: `v` where `addr` is in RAM and `a`
is one of its mirrors (R85, R86, R96), else `old`. -/
def readAfter (addr : Word) (v : Byte) (a : Word) (old : Byte) : Byte :=
  if mirror a = mirror addr ∧ 0x4000 ≤ mirror addr ∧ mirror addr < 0x5000 then v else old

/-- `t` is `s` after one bus write of `v` at `addr`, but for the CPU and the cycles charged; every other byte of memory
reads as before. -/
def StoresByte (s t : State) (addr : Word) (v : Byte) (n : Nat) : Prop :=
  t = { s.busWrite addr v with cpu := t.cpu, cycles := n } ∧
    ∀ a : Word, t.busRead a = readAfter addr v a (s.busRead a)

/-- `t` is `s` after a bus write of `v1` at `a1` and then one of `v2` at `a2`, but for the CPU and the cycles charged;
every other byte of memory reads as before. -/
def StoresTwo (s t : State) (a1 : Word) (v1 : Byte) (a2 : Word) (v2 : Byte) (n : Nat) : Prop :=
  t = { (s.busWrite a1 v1).busWrite a2 v2 with cpu := t.cpu, cycles := n } ∧
    ∀ a : Word, t.busRead a = readAfter a2 v2 a (readAfter a1 v1 a (s.busRead a))

/-- The CPU `d` is the CPU `c` but for register `r`, which holds `v` (R13, R21). -/
def Cpu.OnlyReg (c d : Cpu) (r : Reg8) (v : Byte) : Prop :=
  d = { c with b := d.b, c := d.c, d := d.d, e := d.e, h := d.h, l := d.l, a := d.a } ∧
    ∀ r' : Reg8, d.reg r' = if r' = r then v else c.reg r'

/-- The CPU `d` is the CPU `c` but for register `r`, which holds `v`, and the flags. -/
def Cpu.OnlyRegAndFlags (c d : Cpu) (r : Reg8) (v : Byte) : Prop :=
  d = { c with b := d.b, c := d.c, d := d.d, e := d.e, h := d.h, l := d.l, a := d.a, f := d.f } ∧
    ∀ r' : Reg8, d.reg r' = if r' = r then v else c.reg r'

/-- The CPU `d` is the CPU `c` but for the pair `q`, which holds `v` (R13, R21). -/
def Cpu.OnlyPair (c d : Cpu) (q : Pair) (v : Word) : Prop :=
  d = { c with b := d.b, c := d.c, d := d.d, e := d.e, h := d.h, l := d.l, sp := d.sp } ∧
    ∀ q' : Pair, d.rp q' = if q' = q then v else c.rp q'

/-- The CPU `d` is the CPU `c` but for the index register `i`, which holds `v` (R23). -/
def Cpu.OnlyIndex (c d : Cpu) (i : Index) (v : Word) : Prop :=
  d = { c with ix := d.ix, iy := d.iy } ∧ ∀ j : Index, d.ii j = if j = i then v else c.ii j

/-- The CPU `d` is the CPU `c` but for the index register `i`, which holds `v`, and the flags. -/
def Cpu.OnlyIndexAndFlags (c d : Cpu) (i : Index) (v : Word) : Prop :=
  d = { c with ix := d.ix, iy := d.iy, f := d.f } ∧ ∀ j : Index, d.ii j = if j = i then v else c.ii j

/-! ### Flags -/

/-- `SF`, `ZF`, `YF` and `XF` as the helper `SZYX(v)` leaves them (R14). -/
def Cpu.Shows (c : Cpu) (v : Byte) : Prop :=
  c.sf = v.getLsbD 7 ∧ c.zf = decide (v = 0) ∧ c.yf = v.getLsbD 5 ∧ c.xf = v.getLsbD 3

/-- Has `v` an even number of 1 bits? (R13) -/
def evenOnes (v : Byte) : Bool := decide ((List.range 8).countP (fun k => v.getLsbD k) % 2 = 0)

/-- The flags of an 8-bit addition or subtraction (R291, R293): `r` the result, `half` the carry out of bit 3 or the
borrow into it, `full` the carry or the borrow, `signed` the exact result of the signed operands. -/
def Cpu.ArithFlags (c : Cpu) (r : Byte) (half full : Bool) (signed : Int) (subtract : Bool) : Prop :=
  c.Shows r ∧ c.hf = half ∧ c.pf = decide (signed < -128 ∨ 127 < signed) ∧ c.nf = subtract ∧ c.cf = full

/-- `SF`, `ZF` and `PF` are as they were. -/
def Cpu.KeepsSZP (c d : Cpu) : Prop := d.sf = c.sf ∧ d.zf = c.zf ∧ d.pf = c.pf

/-- `CC[c]`: a condition as a bit of `F` (R13, R26). -/
def Cpu.meets (c : Cpu) (cc : Cond) : Bool :=
  match cc with
  | .nz => !c.f.getLsbD 6 | .z => c.f.getLsbD 6 | .nc => !c.f.getLsbD 0 | .c => c.f.getLsbD 0
  | .po => !c.f.getLsbD 2 | .pe => c.f.getLsbD 2 | .p => !c.f.getLsbD 7 | .m => c.f.getLsbD 7

/-! ### The forms of instructions of one shape -/

/-- The nine forms of an accumulator operation with its operand and its cost (R290): register, immediate, `(HL)`,
`(IX+d)`, `(IY+d)`, `IXH`, `IXL`, `IYH`, `IYL`. -/
def State.aluForms (s : State) (p : Pass) (r : Reg8) (n d : Byte) (reg : Pass → Reg8 → Instr) (imm : Pass → Byte → Instr)
    (hl : Instr) (ixd iyd : Byte → Instr) (ixh ixl iyh iyl : Instr) : List (Instr × Byte × Nat) :=
  [(reg p r, s.reg r, 4 + p.extra), (imm p n, n, 7 + p.extra), (hl, s.busRead s.hl, 7),
   (ixd d, s.busRead (s.idxAddr .ix d), 19), (iyd d, s.busRead (s.idxAddr .iy d), 19),
   (ixh, hi s.cpu.ix, 8), (ixl, lo s.cpu.ix, 8), (iyh, hi s.cpu.iy, 8), (iyl, lo s.cpu.iy, 8)]

/-- One rotate or shift `ROT[y]` in its forms, with its result from the value and the old `CF`, and the bit that goes
to `CF`, as numbers (R374 to R382). -/
structure Rotation where
  reg : Reg8 → Instr
  hl : Instr
  ixd : Byte → Instr
  iyd : Byte → Instr
  ixdR : Byte → Reg8 → Instr
  iydR : Byte → Reg8 → Instr
  result : Nat → Nat → Nat
  out : Nat → Nat

/-- The eight rotates and shifts (R375 to R382). -/
def rotations : List Rotation :=
  [{ reg := .rlcR, hl := .rlcHl, ixd := .rlcIxd, iyd := .rlcIyd, ixdR := .rlcIxdR, iydR := .rlcIydR
     result := fun v _ => v * 2 % 256 + v / 128, out := fun v => v / 128 },
   { reg := .rrcR, hl := .rrcHl, ixd := .rrcIxd, iyd := .rrcIyd, ixdR := .rrcIxdR, iydR := .rrcIydR
     result := fun v _ => v / 2 + 128 * (v % 2), out := fun v => v % 2 },
   { reg := .rlR, hl := .rlHl, ixd := .rlIxd, iyd := .rlIyd, ixdR := .rlIxdR, iydR := .rlIydR
     result := fun v c => v * 2 % 256 + c, out := fun v => v / 128 },
   { reg := .rrR, hl := .rrHl, ixd := .rrIxd, iyd := .rrIyd, ixdR := .rrIxdR, iydR := .rrIydR
     result := fun v c => v / 2 + 128 * c, out := fun v => v % 2 },
   { reg := .slaR, hl := .slaHl, ixd := .slaIxd, iyd := .slaIyd, ixdR := .slaIxdR, iydR := .slaIydR
     result := fun v _ => v * 2 % 256, out := fun v => v / 128 },
   { reg := .sraR, hl := .sraHl, ixd := .sraIxd, iyd := .sraIyd, ixdR := .sraIxdR, iydR := .sraIydR
     result := fun v _ => v / 2 + 128 * (v / 128), out := fun v => v % 2 },
   { reg := .sllR, hl := .sllHl, ixd := .sllIxd, iyd := .sllIyd, ixdR := .sllIxdR, iydR := .sllIydR
     result := fun v _ => v * 2 % 256 + 1, out := fun v => v / 128 },
   { reg := .srlR, hl := .srlHl, ixd := .srlIxd, iyd := .srlIyd, ixdR := .srlIxdR, iydR := .srlIydR
     result := fun v _ => v / 2, out := fun v => v % 2 }]

/-- `SET b` or `RES b` in its forms, and the value it gives the bit. -/
structure BitChange where
  reg : Instr
  hl : Instr
  ixd : Instr
  iyd : Instr
  ixdR : Instr
  iydR : Instr
  value : Bool

/-- `SET b` and `RES b` (R403 to R410). -/
def bitChanges (b : Code3) (r : Reg8) (d : Byte) : List BitChange :=
  [{ reg := .setR b r, hl := .setHl b, ixd := .setIxd b d, iyd := .setIyd b d, ixdR := .setIxdR b d r
     iydR := .setIydR b d r, value := true },
   { reg := .resR b r, hl := .resHl b, ixd := .resIxd b d, iyd := .resIyd b d, ixdR := .resIxdR b d r
     iydR := .resIydR b d r, value := false }]

end Sys2Proof.Machine
end

