-- ==== Sys2Proof/Certificates/Slice0/Obligations.lean ====
section
/-! DEFINITION. The statements for the provers. -/

section

open Sys2Proof Sys2Proof.Machine

/-! ### Fetching, decoding, stepping -/

/-- R25, R141, R320, R520. Where the four bytes at `PC` decode to a well-formed `i`, the step is `exec i` in the state
with `PC` past the bytes of `i` and `R` advanced, then the clearing of `ei_delay` unless `i` is `EI`, then the frame
accounting. `table = main` says that no bare prefix is under way (the model's own field, log 8). -/
def Obligations.StepRunsTheDecodedInstruction : Prop :=
  ∀ (s : State) (i : Instr), s.cpu.halted = false → s.table = .main → wellFormed i = true →
    decodeBytes [s.busRead s.cpu.pc, s.busRead (s.cpu.pc + 1), s.busRead (s.cpu.pc + 2), s.busRead (s.cpu.pc + 3)] = i →
    step s =
      match exec i { s with
          cpu := { s.cpu with
            pc := s.cpu.pc + BitVec.ofNat 16 (encode i).length
            r := incR s.cpu.r (refreshCount i) }
          table := .main } with
      | .next t => .next (if isEi i then t else t.setEiDelay false).account
      | .fault r => .fault r
      | .refused r => .refused r

/-- R114, R140, R141. Where the bytes of a well-formed instruction stand at `PC` (and, for a lone index prefix, the
byte R152 looks at), the step runs that instruction, whatever bytes follow. -/
def Obligations.BytesPlacedAtPcAreExecuted : Prop :=
  ∀ (s : State) (i : Instr), s.cpu.halted = false → s.table = .main → wellFormed i = true →
    (∀ (k : Nat) (b : Byte), (encode i ++ lookahead i)[k]? = some b → s.busRead (s.cpu.pc + BitVec.ofNat 16 k) = b) →
    step s =
      match exec i { s with
          cpu := { s.cpu with
            pc := s.cpu.pc + BitVec.ofNat 16 (encode i).length
            r := incR s.cpu.r (refreshCount i) }
          table := .main } with
      | .next t => .next (if isEi i then t else t.setEiDelay false).account
      | .fault r => .fault r
      | .refused r => .refused r

/-- R321: the halted step. -/
def Obligations.HaltedStepOnlyAdvancesRefresh : Prop :=
  ∀ s : State, s.cpu.halted = true →
    s.cpuStep = .next { s with cpu := { s.cpu with r := incR s.cpu.r 1, eiDelay := false }, cycles := 4 }

/-- R18: bit 7 of `R` never changes, the low seven bits advance modulo 128; by 2 where the first byte of an
instruction of at least two bytes is a prefix, else by 1. R152: a DD or FD that is an instruction by itself, of one
byte, advances `R` by 1 (`IncR(1)`), where R18 alone would give an instruction with a prefix byte 2. -/
def Obligations.RefreshCounterAdvance : Prop :=
  (∀ (r : Byte) (n : Nat),
    (incR r n).getLsbD 7 = r.getLsbD 7 ∧ (incR r n).toNat % 128 = (r.toNat % 128 + n) % 128) ∧
  ∀ i : Instr, wellFormed i = true →
    refreshCount i =
      if 2 ≤ (encode i).length ∧ (encode i).head? ∈ [some 0xCB, some 0xED, some 0xDD, some 0xFD] then 2 else 1

/-- Decode and encode agree on every well-formed instruction, every operand at every value, whatever follows (R140 to
R166). -/
def Obligations.DecodeOfEncodeIsTheInstruction : Prop :=
  ∀ (i : Instr) (rest : List Byte), wellFormed i = true →
    decode (encode i ++ (lookahead i ++ rest)) = .ok (i, lookahead i ++ rest)

/-- R140, R160: any four bytes begin with exactly one instruction, a well-formed one of 1 to 4 bytes, and no bit of
those bytes is dropped: they are the encoding of what was decoded. -/
def Obligations.EveryByteSequenceIsAnInstruction : Prop :=
  ∀ b0 b1 b2 b3 : Byte,
    let i := decodeBytes [b0, b1, b2, b3]
    wellFormed i = true ∧ 1 ≤ (encode i).length ∧ (encode i).length ≤ 4 ∧
      encode i ++ lookahead i <+: [b0, b1, b2, b3]

/-- Words written out from the encodings of the spec, one or more for each family, decode to the instruction the spec
gives them. -/
def Obligations.SampleWordsDecode : Prop :=
  decodeBytes [0x78, 0, 0, 0] = .ldRR .none .a .b ∧
  decodeBytes [0xDD, 0x36, 0x02, 0x7F] = .ldIxdN 0x02 0x7F ∧
  decodeBytes [0xED, 0x73, 0x02, 0x4C] = .ldMemDd .sp 0x4C02 ∧
  decodeBytes [0xED, 0xB0, 0, 0] = .ldir ∧
  decodeBytes [0xFD, 0x8E, 0xFF, 0] = .adcAIyd 0xFF ∧
  decodeBytes [0xED, 0x5E, 0, 0] = .im2 3 ∧
  decodeBytes [0xDD, 0x29, 0, 0] = .addIxPp .ii ∧
  decodeBytes [0xDD, 0xCB, 0x03, 0x2E] = .sraIxd 0x03 ∧
  decodeBytes [0xFD, 0xCB, 0x01, 0x87] = .resIydR 0 0x01 .a ∧
  decodeBytes [0xCA, 0x34, 0x12, 0] = .jpCcNn .none .z 0x1234 ∧
  decodeBytes [0xED, 0xA3, 0, 0] = .outi

/-! ### The machine as a whole -/

/-- R160, R500, R660: every instruction has an effect in every state, it neither faults nor is refused, and its cost
lies between 4 and 23 cycles; so does every machine step, but for the entry of an interrupt, which adds 13 or 19 (the
values of R8, log 10). `table = main` says that no bare prefix is under way (log 8). -/
def Obligations.NothingEverFails : Prop :=
  (∀ (i : Instr) (s : State), ∃ t, exec i s = .next t ∧ (wellFormed i = true → 4 ≤ t.cycles ∧ t.cycles ≤ 23)) ∧
  ∀ s : State, s.table = .main → ∃ t, step s = .next t ∧ 4 ≤ t.cycles ∧ t.cycles ≤ 23 + 19

/-- The invariant of Safety.lean is kept by every step, from every state that has it (R9, R40, R41, R50, R520, R586,
R601). `table` is the model's own field (log 8), the frame length and FPS in the bounds of the counters are values of R8
(log 10). -/
def Obligations.StateInvariantIsKept : Prop :=
  ∀ s t : State, s.Inv → step s = .next t → t.Inv

/-- The state after reset has the invariant. That RAM and the ScreenBuffer list nothing there, and that no ROM image is
placed, are the model's choices (logs 2, 4, 6). -/
def Obligations.StateInvariantHoldsAtReset : Prop := State.reset.Inv

/-- R9, R540: a session comes into existence exactly where each of the seven byte arrays has its length, and then its
ROM images read as those bytes. R60 to R62: the power-on values that the spec gives, whatever the images are. -/
def Obligations.PowerOnValues : Prop :=
  (∀ x : RomImages,
    if x.prog.length = 16384 ∧ x.tile.length = 4096 ∧ x.sprite.length = 4096 ∧ x.color.length = 32 ∧
        x.palette.length = 256 ∧ x.wave1.length = 256 ∧ x.wave2.length = 256 then
      ∃ roms : Roms, State.createSession x = some (State.powerOn roms) ∧
        ∀ k,
          (∀ b, x.prog[k]? = some b → roms.prog.read k = b) ∧ (∀ b, x.tile[k]? = some b → roms.tile.read k = b) ∧
          (∀ b, x.sprite[k]? = some b → roms.sprite.read k = b) ∧
          (∀ b, x.color[k]? = some b → roms.color.read k = b) ∧
          (∀ b, x.palette[k]? = some b → roms.palette.read k = b) ∧
          (∀ b, x.wave1[k]? = some b → roms.wave1.read k = b) ∧ (∀ b, x.wave2[k]? = some b → roms.wave2.read k = b)
    else State.createSession x = none) ∧
  ∀ roms : Roms,
    let s := State.powerOn roms
    s.roms = roms ∧
    s.cpu.pc = 0 ∧ s.cpu.iff1 = false ∧ s.cpu.iff2 = false ∧ s.cpu.halted = false ∧ s.cpu.im = .im0 ∧
    s.cpu.i = 0 ∧ s.cpu.r = 0 ∧ s.cpu.eiDelay = false ∧
    (∀ k, k < 16 → s.bus.spritePos.read k = 0) ∧
    s.bus.intEnable = false ∧ s.bus.soundEnable = false ∧ s.bus.flipScreen = false ∧
    s.bus.inputs = { up := false, left := false, right := false, down := false, rackAdvance := false, coin1 := false
                     coin2 := false, credit := false, boardTest := false, start1 := false, start2 := false } ∧
    (∀ c ∈ [s.audio.ch0, s.audio.ch1, s.audio.ch2], c = { freq := 0, wave := 0, vol := 0, acc := 0 }) ∧
    s.audio.mute = false ∧ s.sched.speed = .x1 ∧
    s.sched.cycleAcc = 0 ∧ s.sched.frameCyc = 0 ∧ s.sched.sampleAcc = 0

/-- R60, R61, R542 to R546: each host operation has its own effect and no other; setting one of the eleven input
signals writes its latch, and the ten others stay. (`table` is the model's own field, log 8: `reset()` drops a bare
prefix. `cheatOffset` and `cheatValue` are free values, log 15: the last clause holds for every value of them.) -/
def Obligations.HostOperationsDoOnlyTheirOwn : Prop :=
  ∀ s : State,
    s.warmReset =
      { s with
        cpu := { s.cpu with pc := 0, iff1 := false, iff2 := false, halted := false, im := .im0, i := 0, r := 0
                            eiDelay := false }
        table := .main } ∧
    s.warmReset.busRead s.warmReset.cpu.pc = s.roms.prog.read 0 ∧
    (∀ v, s.setSpeed v = { s with sched := { s.sched with speed := v } }) ∧
    (∀ v, s.setMute v = { s with audio := { s.audio with mute := v } }) ∧
    (∀ sig v, s.setInput sig v = { s with bus := { s.bus with inputs := (s.setInput sig v).bus.inputs } } ∧
      (s.setInput sig v).bus.inputs = s.bus.inputs.set sig v) ∧
    (∀ v, ∀ x ∈ ([(.up, { s.bus.inputs with up := v }), (.left, { s.bus.inputs with left := v }),
          (.right, { s.bus.inputs with right := v }), (.down, { s.bus.inputs with down := v }),
          (.rackAdvance, { s.bus.inputs with rackAdvance := v }), (.coin1, { s.bus.inputs with coin1 := v }),
          (.coin2, { s.bus.inputs with coin2 := v }), (.credit, { s.bus.inputs with credit := v }),
          (.boardTest, { s.bus.inputs with boardTest := v }), (.start1, { s.bus.inputs with start1 := v }),
          (.start2, { s.bus.inputs with start2 := v })] : List (Signal × Inputs)),
      s.setInput x.1 v = { s with bus := { s.bus with inputs := x.2 } }) ∧
    s.debugHook = { s with bus := { s.bus with ram := s.debugHook.bus.ram } } ∧
    (∀ a : Word, s.debugHook.busRead a =
      if mirror a = 0x4000 + Config.cheatOffset.toNat then Config.cheatValue else s.busRead a)

/-- R28 to R31 (whole-machine): only `EI`, `DI`, `RETI`, `RETN` change an interrupt flip-flop, only `IM n` the
interrupt mode, only `HALT` the halt flag, only `LD I,A` the register `I`, only `LD R,A` the register `R` once the
fetch has advanced it; and no instruction but `EI` and `DI` touches `ei_delay` before the step ends. -/
def Obligations.OnlyTheirInstructionsChangeControlRegisters : Prop :=
  ∀ (i : Instr) (s t : State), exec i s = .next t →
    (t.cpu.iff1 = s.cpu.iff1 ∨ (∃ p, i = .ei p) ∨ (∃ p, i = .di p) ∨ i = .reti ∨ ∃ y, i = .retn y) ∧
    (t.cpu.iff2 = s.cpu.iff2 ∨ (∃ p, i = .ei p) ∨ ∃ p, i = .di p) ∧
    (t.cpu.im = s.cpu.im ∨ (∃ y, i = .im0 y) ∨ (∃ y, i = .im1 y) ∨ ∃ y, i = .im2 y) ∧
    (t.cpu.halted = s.cpu.halted ∨ ∃ p, i = .halt p) ∧
    (t.cpu.i = s.cpu.i ∨ i = .ldIA) ∧
    (t.cpu.r = s.cpu.r ∨ i = .ldRA) ∧
    (t.cpu.eiDelay = s.cpu.eiDelay ∨ (∃ p, i = .ei p) ∨ ∃ p, i = .di p)

/-- R22, R43, R44, R95, R121 (whole-machine): only `EX AF,AF'` and `EXX` change a shadow register, only the output
instructions the interrupt vector; none changes a ROM image, an input latch, the ScreenBuffer, the scheduler, `mute`,
a phase accumulator or the samples already pushed. -/
def Obligations.InstructionsLeaveTheRestAlone : Prop :=
  ∀ (i : Instr) (s t : State), exec i s = .next t →
    ((t.cpu.a2 = s.cpu.a2 ∧ t.cpu.f2 = s.cpu.f2) ∨ ∃ p, i = .exAfAf p) ∧
    ((t.cpu.b2 = s.cpu.b2 ∧ t.cpu.c2 = s.cpu.c2 ∧ t.cpu.d2 = s.cpu.d2 ∧ t.cpu.e2 = s.cpu.e2 ∧ t.cpu.h2 = s.cpu.h2 ∧
      t.cpu.l2 = s.cpu.l2) ∨ ∃ p, i = .exx p) ∧
    (t.bus.intVector = s.bus.intVector ∨ (∃ p n, i = .outNA p n) ∨ (∃ r, i = .outCR r) ∨
      i ∈ [.outC0, .outi, .outd, .otir, .otdr]) ∧
    t.roms = s.roms ∧ t.bus.inputs = s.bus.inputs ∧ t.screen = s.screen ∧ t.sched = s.sched ∧
    t.audio.mute = s.audio.mute ∧ t.audio.ch0.acc = s.audio.ch0.acc ∧ t.audio.ch1.acc = s.audio.ch1.acc ∧
    t.audio.ch2.acc = s.audio.ch2.acc ∧ t.audio.pushed = s.audio.pushed

/-- R24 (whole-machine): the instructions that write `SP`, and by how much the implicit ones move it. -/
def Obligations.OnlyStackInstructionsMoveTheStackPointer : Prop :=
  ∀ (i : Instr) (s t : State), exec i s = .next t →
    t.cpu.sp = s.cpu.sp ∨
    (t.cpu.sp = s.cpu.sp - 2 ∧ ((∃ p q, i = .pushQq p q) ∨ i = .pushIx ∨ i = .pushIy ∨ (∃ p nn, i = .callNn p nn) ∨
      (∃ p cc nn, i = .callCcNn p cc nn) ∨ ∃ p y, i = .rst p y)) ∨
    (t.cpu.sp = s.cpu.sp + 2 ∧ ((∃ p q, i = .popQq p q) ∨ i = .popIx ∨ i = .popIy ∨ (∃ p, i = .ret p) ∨
      (∃ p cc, i = .retCc p cc) ∨ i = .reti ∨ ∃ y, i = .retn y)) ∨
    (∃ p nn, i = .ldDdNn p .sp nn) ∨ (∃ nn, i = .ldDdMem .sp nn) ∨ i = .ldSpHl ∨ i = .ldSpIx ∨ i = .ldSpIy ∨
    (∃ p, i = .incSs p .sp) ∨ ∃ p, i = .decSs p .sp

/-! ### 8-bit loads (spec/40) -/

/-- R144, R200 to R203, R208 to R210: `LD r,r'`, `LD r,n`, `LD r,(HL)`, `LD r,(ii+d)`, `LD A,(BC)`, `LD A,(DE)`,
`LD A,(nn)`: the destination takes the source, nothing else changes; and what the address of an indexed operand is, as
numbers. -/
def Obligations.ByteLoadsFillOneRegister : Prop :=
  ∀ (s : State) (p : Pass) (r r' : Reg8) (n d : Byte) (nn : Word),
    (∀ i : Index, ((s.idxAddr i d).toNat : Int) = ((s.ii i).toNat + d.toInt) % 65536) ∧
    ∀ x ∈ ([(.ldRR p r r', r, s.reg r', 4 + p.extra),
            (.ldRN p r n, r, n, 7 + p.extra),
            (.ldRHl r, r, s.busRead s.hl, 7),
            (.ldRIxd r d, r, s.busRead (s.idxAddr .ix d), 19),
            (.ldRIyd r d, r, s.busRead (s.idxAddr .iy d), 19),
            (.ldABc p, .a, s.busRead s.bc, 7 + p.extra),
            (.ldADe p, .a, s.busRead s.de, 7 + p.extra),
            (.ldANn p nn, .a, s.busRead nn, 13 + p.extra)] : List (Instr × Reg8 × Byte × Nat)),
      ∃ t, exec x.1 s = .next t ∧ CpuOnly s t x.2.2.2 ∧ s.cpu.OnlyReg t.cpu x.2.1 x.2.2.1

/-- R204 to R207, R211 to R213: `LD (HL),r`, `LD (HL),n`, `LD (ii+d),r`, `LD (ii+d),n`, `LD (BC),A`, `LD (DE),A`,
`LD (nn),A`: one byte is written to the bus, the CPU keeps every register. -/
def Obligations.ByteStoresWriteOneByte : Prop :=
  ∀ (s : State) (p : Pass) (r : Reg8) (n d : Byte) (nn : Word),
    ∀ x ∈ ([(.ldHlR r, s.hl, s.reg r, 7),
            (.ldHlN n, s.hl, n, 10),
            (.ldIxdR r d, s.idxAddr .ix d, s.reg r, 19),
            (.ldIydR r d, s.idxAddr .iy d, s.reg r, 19),
            (.ldIxdN d n, s.idxAddr .ix d, n, 19),
            (.ldIydN d n, s.idxAddr .iy d, n, 19),
            (.ldBcA p, s.bc, s.cpu.a, 7 + p.extra),
            (.ldDeA p, s.de, s.cpu.a, 7 + p.extra),
            (.ldNnA p nn, nn, s.cpu.a, 13 + p.extra)] : List (Instr × Word × Byte × Nat)),
      ∃ t, exec x.1 s = .next t ∧ StoresByte s t x.2.1 x.2.2.1 x.2.2.2 ∧ t.cpu = s.cpu

/-- R218, R219: loads of and from the halves of an index register; the other half stays. -/
def Obligations.IndexHalfLoads : Prop :=
  ∀ (s : State) (i : Index) (n : Byte) (r : Reg8) (x : XReg8),
    let source : Byte :=
      match x with
      | .b => s.cpu.b | .c => s.cpu.c | .d => s.cpu.d | .e => s.cpu.e | .a => s.cpu.a
      | .xh => hi (s.ii i) | .xl => lo (s.ii i)
    (∀ y ∈ ([(i.pick (.ldIxhN n) (.ldIyhN n), n, 11), (i.pick (.ldIxHalfR .hi x) (.ldIyHalfR .hi x), source, 8)] :
          List (Instr × Byte × Nat)),
      ∃ t, exec y.1 s = .next t ∧ CpuOnly s t y.2.2 ∧ s.cpu.OnlyIndex t.cpu i (y.2.1 ++ lo (s.ii i))) ∧
    (∀ y ∈ ([(i.pick (.ldIxlN n) (.ldIylN n), n, 11), (i.pick (.ldIxHalfR .lo x) (.ldIyHalfR .lo x), source, 8)] :
          List (Instr × Byte × Nat)),
      ∃ t, exec y.1 s = .next t ∧ CpuOnly s t y.2.2 ∧ s.cpu.OnlyIndex t.cpu i (hi (s.ii i) ++ y.2.1)) ∧
    (∀ y ∈ ([(i.pick (.ldRIxHalf r .hi) (.ldRIyHalf r .hi), hi (s.ii i)),
             (i.pick (.ldRIxHalf r .lo) (.ldRIyHalf r .lo), lo (s.ii i))] : List (Instr × Byte)),
      ∃ t, exec y.1 s = .next t ∧ CpuOnly s t 8 ∧ s.cpu.OnlyReg t.cpu r y.2)

/-- R214 to R217: `LD A,I` and `LD A,R` with their flags, `LD I,A`, `LD R,A`. -/
def Obligations.InterruptPageAndRefreshLoads : Prop :=
  ∀ s : State,
    (∀ x ∈ ([(.ldAI, s.cpu.i), (.ldAR, s.cpu.r)] : List (Instr × Byte)),
      ∃ t, exec x.1 s = .next t ∧ CpuOnly s t 9 ∧ s.cpu.OnlyRegAndFlags t.cpu .a x.2 ∧ t.cpu.Shows x.2 ∧
        t.cpu.hf = false ∧ t.cpu.nf = false ∧ t.cpu.pf = s.cpu.iff2 ∧ t.cpu.cf = s.cpu.cf) ∧
    (∃ t, exec .ldIA s = .next t ∧ CpuOnly s t 9 ∧ t.cpu = { s.cpu with i := s.cpu.a }) ∧
    (∃ t, exec .ldRA s = .next t ∧ CpuOnly s t 9 ∧ t.cpu = { s.cpu with r := s.cpu.a })

/-! ### 16-bit loads (spec/41) -/

/-- R230 to R234, R238, R239, R107: the 16-bit loads; a word in memory has its low byte at the lower address. -/
def Obligations.WordLoadsFillOnePair : Prop :=
  ∀ (s : State) (p : Pass) (q : Pair) (nn : Word),
    let m : Word := s.busRead (nn + 1) ++ s.busRead nn
    (∀ x ∈ ([(.ldDdNn p q nn, q, nn, 10 + p.extra), (.ldDdMem q nn, q, m, 20), (.ldHlNn nn, .hl, m, 16),
             (.ldSpHl, .sp, s.hl, 6), (.ldSpIx, .sp, s.cpu.ix, 10), (.ldSpIy, .sp, s.cpu.iy, 10)] :
          List (Instr × Pair × Word × Nat)),
      ∃ t, exec x.1 s = .next t ∧ CpuOnly s t x.2.2.2 ∧ s.cpu.OnlyPair t.cpu x.2.1 x.2.2.1) ∧
    (∀ x ∈ ([(.ldIxNn nn, .ix, nn, 14), (.ldIxMem nn, .ix, m, 20), (.ldIyNn nn, .iy, nn, 14),
             (.ldIyMem nn, .iy, m, 20)] : List (Instr × Index × Word × Nat)),
      ∃ t, exec x.1 s = .next t ∧ CpuOnly s t x.2.2.2 ∧ s.cpu.OnlyIndex t.cpu x.2.1 x.2.2.1)

/-- R107, R109, R235 to R237: a 16-bit store writes the low byte at `nn` first, then the high byte at `nn + 1`. R240,
R241: a push writes the high byte at `SP - 1` first, then the low byte at `SP - 2`, and leaves `SP` there. -/
def Obligations.WordStoresAndPushes : Prop :=
  ∀ (s : State) (p : Pass) (q : Pair) (qq : StackPair) (nn : Word),
    (∀ x ∈ ([(.ldMemDd q nn, s.rp q, 20), (.ldNnHl nn, s.hl, 16), (.ldMemIx nn, s.cpu.ix, 20),
             (.ldMemIy nn, s.cpu.iy, 20)] : List (Instr × Word × Nat)),
      ∃ t, exec x.1 s = .next t ∧ StoresTwo s t nn (lo x.2.1) (nn + 1) (hi x.2.1) x.2.2 ∧ t.cpu = s.cpu) ∧
    (∀ x ∈ ([(.pushQq p qq, s.rp2 qq, 11 + p.extra), (.pushIx, s.cpu.ix, 15), (.pushIy, s.cpu.iy, 15)] :
          List (Instr × Word × Nat)),
      ∃ t, exec x.1 s = .next t ∧
        StoresTwo s t (s.cpu.sp - 1) (hi x.2.1) (s.cpu.sp - 2) (lo x.2.1) x.2.2 ∧
        t.cpu = { s.cpu with sp := s.cpu.sp - 2 })

/-- R242, R243: a pop reads the low byte at `SP`, the high byte at `SP + 1`, and leaves `SP` two higher; `POP AF` loads
all eight bits of `F`. -/
def Obligations.PopsReadLowByteFirst : Prop :=
  ∀ (s : State) (p : Pass),
    let low := s.busRead s.cpu.sp
    let high := s.busRead (s.cpu.sp + 1)
    (∃ t, exec (.popQq p .bc) s = .next t ∧ CpuOnly s t (10 + p.extra) ∧
      t.cpu = { s.cpu with b := high, c := low, sp := s.cpu.sp + 2 }) ∧
    (∃ t, exec (.popQq p .de) s = .next t ∧ CpuOnly s t (10 + p.extra) ∧
      t.cpu = { s.cpu with d := high, e := low, sp := s.cpu.sp + 2 }) ∧
    (∃ t, exec (.popQq p .hl) s = .next t ∧ CpuOnly s t (10 + p.extra) ∧
      t.cpu = { s.cpu with h := high, l := low, sp := s.cpu.sp + 2 }) ∧
    (∃ t, exec (.popQq p .af) s = .next t ∧ CpuOnly s t (10 + p.extra) ∧
      t.cpu = { s.cpu with a := high, f := low, sp := s.cpu.sp + 2 }) ∧
    (∃ t, exec .popIx s = .next t ∧ CpuOnly s t 14 ∧ t.cpu = { s.cpu with ix := high ++ low, sp := s.cpu.sp + 2 }) ∧
    (∃ t, exec .popIy s = .next t ∧ CpuOnly s t 14 ∧ t.cpu = { s.cpu with iy := high ++ low, sp := s.cpu.sp + 2 })

/-! ### Exchanges and block instructions (spec/42) -/

/-- R260, R261, R262. -/
def Obligations.ExchangesSwapTheirPairs : Prop :=
  ∀ (s : State) (p : Pass),
    encode (.exDeHl .none) = [0xEB] ∧ encode (.exAfAf .none) = [0x08] ∧ encode (.exx .none) = [0xD9] ∧
    (∃ t, exec (.exDeHl p) s = .next t ∧ CpuOnly s t (4 + p.extra) ∧
      t.cpu = { s.cpu with d := s.cpu.h, e := s.cpu.l, h := s.cpu.d, l := s.cpu.e }) ∧
    (∃ t, exec (.exAfAf p) s = .next t ∧ CpuOnly s t (4 + p.extra) ∧
      t.cpu = { s.cpu with a := s.cpu.a2, f := s.cpu.f2, a2 := s.cpu.a, f2 := s.cpu.f }) ∧
    (∃ t, exec (.exx p) s = .next t ∧ CpuOnly s t (4 + p.extra) ∧
      t.cpu = { s.cpu with b := s.cpu.b2, c := s.cpu.c2, d := s.cpu.d2, e := s.cpu.e2, h := s.cpu.h2, l := s.cpu.l2
                           b2 := s.cpu.b, c2 := s.cpu.c, d2 := s.cpu.d, e2 := s.cpu.e, h2 := s.cpu.h
                           l2 := s.cpu.l })

/-- R263, R264: the register and the word at `SP` change places, the high byte written first; `SP` stays. -/
def Obligations.StackTopExchanges : Prop :=
  ∀ s : State,
    let low := s.busRead s.cpu.sp
    let high := s.busRead (s.cpu.sp + 1)
    (∃ t, exec .exSpHl s = .next t ∧ StoresTwo s t (s.cpu.sp + 1) s.cpu.h s.cpu.sp s.cpu.l 19 ∧
      t.cpu = { s.cpu with h := high, l := low }) ∧
    (∃ t, exec .exSpIx s = .next t ∧ StoresTwo s t (s.cpu.sp + 1) (hi s.cpu.ix) s.cpu.sp (lo s.cpu.ix) 23 ∧
      t.cpu = { s.cpu with ix := high ++ low }) ∧
    (∃ t, exec .exSpIy s = .next t ∧ StoresTwo s t (s.cpu.sp + 1) (hi s.cpu.iy) s.cpu.sp (lo s.cpu.iy) 23 ∧
      t.cpu = { s.cpu with iy := high ++ low })

/-- R265 to R268: `LDI`, `LDD` (`repeats` false) and `LDIR`, `LDDR` (true); `step` is +1 or -1. -/
def Obligations.BlockTransfers : Prop :=
  ∀ s : State, ∀ x ∈ ([(.ldi, 1, false), (.ldd, -1, false), (.ldir, 1, true), (.lddr, -1, true)] :
      List (Instr × Word × Bool)),
    let v := s.busRead s.hl
    let n := v + s.cpu.a
    let again := x.2.2 && decide (s.bc - 1 ≠ 0)
    ∃ t, exec x.1 s = .next t ∧ StoresByte s t s.de v (if again then 21 else 16) ∧
      t.cpu = { s.cpu with b := t.cpu.b, c := t.cpu.c, d := t.cpu.d, e := t.cpu.e, h := t.cpu.h, l := t.cpu.l
                           f := t.cpu.f, pc := if again then s.cpu.pc - 2 else s.cpu.pc } ∧
      t.hl = s.hl + x.2.1 ∧ t.de = s.de + x.2.1 ∧ t.bc = s.bc - 1 ∧
      t.cpu.hf = false ∧ t.cpu.nf = false ∧ t.cpu.pf = decide (s.bc - 1 ≠ 0) ∧
      t.cpu.yf = n.getLsbD 1 ∧ t.cpu.xf = n.getLsbD 3 ∧
      t.cpu.sf = s.cpu.sf ∧ t.cpu.zf = s.cpu.zf ∧ t.cpu.cf = s.cpu.cf

/-- R269 to R272: `CPI`, `CPD`, `CPIR`, `CPDR`: `r` is `A` minus the byte, `half` the borrow into bit 4; the repeating
forms go on while `BC` is not 0 and no match was found. -/
def Obligations.BlockSearches : Prop :=
  ∀ s : State, ∀ x ∈ ([(.cpi, 1, false), (.cpd, -1, false), (.cpir, 1, true), (.cpdr, -1, true)] :
      List (Instr × Word × Bool)),
    let v := s.busRead s.hl
    let r := s.cpu.a - v
    let half := decide (s.cpu.a.toNat % 16 < v.toNat % 16)
    let n := if half then r - 1 else r
    let again := x.2.2 && decide (s.bc - 1 ≠ 0) && decide (s.cpu.a ≠ v)
    ∃ t, exec x.1 s = .next t ∧ CpuOnly s t (if again then 21 else 16) ∧
      t.cpu = { s.cpu with b := t.cpu.b, c := t.cpu.c, h := t.cpu.h, l := t.cpu.l
                           f := t.cpu.f, pc := if again then s.cpu.pc - 2 else s.cpu.pc } ∧
      t.hl = s.hl + x.2.1 ∧ t.bc = s.bc - 1 ∧
      t.cpu.sf = r.getLsbD 7 ∧ t.cpu.zf = decide (s.cpu.a = v) ∧ t.cpu.hf = half ∧
      t.cpu.pf = decide (s.bc - 1 ≠ 0) ∧ t.cpu.nf = true ∧
      t.cpu.yf = n.getLsbD 1 ∧ t.cpu.xf = n.getLsbD 3 ∧ t.cpu.cf = s.cpu.cf

/-! ### 8-bit arithmetic and logic (spec/43) -/

/-- R291, R292 (with R15): `ADD A,s` and `ADC A,s` in all their forms. -/
def Obligations.AdditionsToTheAccumulator : Prop :=
  ∀ (s : State) (p : Pass) (r : Reg8) (n d : Byte),
    ∀ x ∈ (s.aluForms p r n d .addAR .addAN .addAHl .addAIxd .addAIyd .addAIxh .addAIxl .addAIyh .addAIyl).map
          (fun y => (y, false)) ++
        (s.aluForms p r n d .adcAR .adcAN .adcAHl .adcAIxd .adcAIyd .adcAIxh .adcAIxl .adcAIyh .adcAIyl).map
          (fun y => (y, s.cpu.cf)),
      let a := s.cpu.a
      let v : Byte := x.1.2.1
      let c : Nat := x.2.toNat
      let sum : Byte := BitVec.ofNat 8 (a.toNat + v.toNat + c)
      ∃ t, exec x.1.1 s = .next t ∧ CpuOnly s t x.1.2.2 ∧ s.cpu.OnlyRegAndFlags t.cpu .a sum ∧
        t.cpu.ArithFlags sum (decide (15 < a.toNat % 16 + v.toNat % 16 + c)) (decide (255 < a.toNat + v.toNat + c))
          (a.toInt + v.toInt + c) false

/-- R293, R294 (with R16), R329: `SUB s`, `SBC A,s` in all their forms, and `NEG`, which subtracts `A` from 0. -/
def Obligations.SubtractionsFromTheAccumulator : Prop :=
  ∀ (s : State) (p : Pass) (r : Reg8) (n d : Byte) (y : Code3),
    ∀ x ∈ (s.aluForms p r n d .subR .subN .subHl .subIxd .subIyd .subIxh .subIxl .subIyh .subIyl).map
          (fun z => (z, s.cpu.a, false)) ++
        (s.aluForms p r n d .sbcAR .sbcAN .sbcAHl .sbcAIxd .sbcAIyd .sbcAIxh .sbcAIxl .sbcAIyh .sbcAIyl).map
          (fun z => (z, s.cpu.a, s.cpu.cf)) ++
        [((.neg y, s.cpu.a, 8), 0, false)],
      let a : Byte := x.2.1
      let v : Byte := x.1.2.1
      let c : Nat := x.2.2.toNat
      let diff : Int := (a.toNat : Int) - v.toNat - c
      ∃ t, exec x.1.1 s = .next t ∧ CpuOnly s t x.1.2.2 ∧
        s.cpu.OnlyRegAndFlags t.cpu .a (BitVec.ofInt 8 diff) ∧
        t.cpu.ArithFlags (BitVec.ofInt 8 diff) (decide (a.toNat % 16 < v.toNat % 16 + c)) (decide (diff < 0))
          (a.toInt - v.toInt - c) true

/-- R295 to R297: `AND s`, `XOR s`, `OR s` in all their forms, bit by bit. -/
def Obligations.LogicalOperationsOnTheAccumulator : Prop :=
  ∀ (s : State) (p : Pass) (r : Reg8) (n d : Byte),
    ∀ x ∈ (s.aluForms p r n d .andR .andN .andHl .andIxd .andIyd .andIxh .andIxl .andIyh .andIyl).map
          (fun y => (y, and, true)) ++
        (s.aluForms p r n d .xorR .xorN .xorHl .xorIxd .xorIyd .xorIxh .xorIxl .xorIyh .xorIyl).map
          (fun y => (y, xor, false)) ++
        (s.aluForms p r n d .orR .orN .orHl .orIxd .orIyd .orIxh .orIxl .orIyh .orIyl).map
          (fun y => (y, or, false)),
      ∃ t, exec x.1.1 s = .next t ∧ CpuOnly s t x.1.2.2 ∧ s.cpu.OnlyRegAndFlags t.cpu .a t.cpu.a ∧
        (∀ k, k < 8 → t.cpu.a.getLsbD k = x.2.1 (s.cpu.a.getLsbD k) (x.1.2.1.getLsbD k)) ∧
        t.cpu.Shows t.cpu.a ∧ t.cpu.hf = x.2.2 ∧ t.cpu.pf = evenOnes t.cpu.a ∧ t.cpu.nf = false ∧ t.cpu.cf = false

/-- R298: `CP s` in all its forms: `A` stays; `ZF` says equal, `CF` says less, `YF` and `XF` come from the operand. -/
def Obligations.ComparisonsKeepTheAccumulator : Prop :=
  ∀ (s : State) (p : Pass) (r : Reg8) (n d : Byte),
    ∀ x ∈ s.aluForms p r n d .cpR .cpN .cpHl .cpIxd .cpIyd .cpIxh .cpIxl .cpIyh .cpIyl,
      let a := s.cpu.a
      let v := x.2.1
      ∃ t, exec x.1 s = .next t ∧ CpuOnly s t x.2.2 ∧ t.cpu = { s.cpu with f := t.cpu.f } ∧
        t.cpu.sf = (a - v).getLsbD 7 ∧ t.cpu.zf = decide (a = v) ∧
        t.cpu.yf = v.getLsbD 5 ∧ t.cpu.xf = v.getLsbD 3 ∧
        t.cpu.hf = decide (a.toNat % 16 < v.toNat % 16) ∧
        t.cpu.pf = decide (a.toInt - v.toInt < -128 ∨ 127 < a.toInt - v.toInt) ∧
        t.cpu.nf = true ∧ t.cpu.cf = decide (a.toNat < v.toNat)

/-- R299 to R305: `INC` and `DEC` of a register, of an index half (the other half stays) and of a memory byte; `CF`
stays. -/
def Obligations.ByteIncrementsAndDecrements : Prop :=
  ∀ (s : State) (p : Pass) (r : Reg8) (d : Byte),
    let counted (c : Cpu) (v w : Byte) (down : Bool) : Prop :=
      c.Shows w ∧ c.nf = down ∧ c.cf = s.cpu.cf ∧
        c.hf = (if down then decide (v.toNat % 16 = 0) else decide (v.toNat % 16 = 15)) ∧
        c.pf = (if down then decide (v = 0x80) else decide (v = 0x7F))
    (∀ x ∈ ([(.incR p r, s.reg r + 1, false), (.decR p r, s.reg r - 1, true)] : List (Instr × Byte × Bool)),
      ∃ t, exec x.1 s = .next t ∧ CpuOnly s t (4 + p.extra) ∧ s.cpu.OnlyRegAndFlags t.cpu r x.2.1 ∧
        counted t.cpu (s.reg r) x.2.1 x.2.2) ∧
    (∀ x ∈ ([(.incIxh, .ix, 1, false), (.incIyh, .iy, 1, false), (.decIxh, .ix, -1, true),
             (.decIyh, .iy, -1, true)] : List (Instr × Index × Byte × Bool)),
      ∃ t, exec x.1 s = .next t ∧ CpuOnly s t 8 ∧
        s.cpu.OnlyIndexAndFlags t.cpu x.2.1 ((hi (s.ii x.2.1) + x.2.2.1) ++ lo (s.ii x.2.1)) ∧
        counted t.cpu (hi (s.ii x.2.1)) (hi (s.ii x.2.1) + x.2.2.1) x.2.2.2) ∧
    (∀ x ∈ ([(.incIxl, .ix, 1, false), (.incIyl, .iy, 1, false), (.decIxl, .ix, -1, true),
             (.decIyl, .iy, -1, true)] : List (Instr × Index × Byte × Bool)),
      ∃ t, exec x.1 s = .next t ∧ CpuOnly s t 8 ∧
        s.cpu.OnlyIndexAndFlags t.cpu x.2.1 (hi (s.ii x.2.1) ++ (lo (s.ii x.2.1) + x.2.2.1)) ∧
        counted t.cpu (lo (s.ii x.2.1)) (lo (s.ii x.2.1) + x.2.2.1) x.2.2.2) ∧
    (∀ x ∈ ([(.incHl, s.hl, 1, false, 11), (.incIxd d, s.idxAddr .ix d, 1, false, 23),
             (.incIyd d, s.idxAddr .iy d, 1, false, 23), (.decHl, s.hl, -1, true, 11),
             (.decIxd d, s.idxAddr .ix d, -1, true, 23), (.decIyd d, s.idxAddr .iy d, -1, true, 23)] :
          List (Instr × Word × Byte × Bool × Nat)),
      ∃ t, exec x.1 s = .next t ∧ StoresByte s t x.2.1 (s.busRead x.2.1 + x.2.2.1) x.2.2.2.2 ∧
        t.cpu = { s.cpu with f := t.cpu.f } ∧
        counted t.cpu (s.busRead x.2.1) (s.busRead x.2.1 + x.2.2.1) x.2.2.2.1)

/-! ### General-purpose arithmetic and CPU control (spec/44) -/

/-- R152, R166, R322, R324: `NOP`, every ED opcode that R147 does not assign, and a lone index prefix change nothing
but what the fetch has changed. R330 to R333: `IM 0`, `IM 1`, `IM 2`, `HALT`, `DI`, `EI`. -/
def Obligations.NoOperationsAndInterruptControl : Prop :=
  ∀ (s : State) (p : Pass) (op : Byte) (y : Code3),
    (∀ x ∈ ([(.nop p, 4 + p.extra), (.nopEd op, 8), (.aloneDdDd, 4), (.aloneDdEd, 4), (.aloneDdFd, 4), (.aloneFdDd, 4),
             (.aloneFdEd, 4), (.aloneFdFd, 4)] : List (Instr × Nat)),
      exec x.1 s = .next { s with cycles := x.2 }) ∧
    (∀ x ∈ ([(.im0 y, { s.cpu with im := .im0 }, 8), (.im1 y, { s.cpu with im := .im1 }, 8),
             (.im2 y, { s.cpu with im := .im2 }, 8), (.halt p, { s.cpu with halted := true }, 4 + p.extra),
             (.di p, { s.cpu with iff1 := false, iff2 := false, eiDelay := false }, 4 + p.extra),
             (.ei p, { s.cpu with iff1 := true, iff2 := true, eiDelay := true }, 4 + p.extra)] :
          List (Instr × Cpu × Nat)),
      exec x.1 s = .next { s with cpu := x.2.1, cycles := x.2.2 })

/-- The model's choice (log 8), on R141 and R143: a bare prefix row, executed by itself, selects the table its next
byte is read in, costs nothing and changes nothing else. -/
def Obligations.BarePrefixesSelectATable : Prop :=
  ∀ s : State,
    ∀ x ∈ ([(.prefixCb, .cb), (.prefixEd, .ed), (.prefixDd, .dd), (.prefixFd, .fd), (.prefixDdCb, .ddcb),
            (.prefixFdCb, .fdcb)] : List (Instr × Table)),
      exec x.1 s = .next { s with table := x.2, cycles := 0 }

/-- R327: `DAA`, with its correction computed from the flags and `A` before. -/
def Obligations.DecimalAdjust : Prop :=
  ∀ (s : State) (p : Pass),
    let a := s.cpu.a.toNat
    let low : Int := if s.cpu.hf = true ∨ 9 < a % 16 then 6 else 0
    let high : Int := if s.cpu.cf = true ∨ 0x99 < a then 0x60 else 0
    let r : Byte := BitVec.ofInt 8 (if s.cpu.nf then a - (low + high) else a + (low + high))
    ∃ t, exec (.daa p) s = .next t ∧ CpuOnly s t (4 + p.extra) ∧ s.cpu.OnlyRegAndFlags t.cpu .a r ∧
      t.cpu.Shows r ∧ t.cpu.pf = evenOnes r ∧ t.cpu.nf = s.cpu.nf ∧
      t.cpu.cf = decide (s.cpu.cf = true ∨ 0x99 < a) ∧
      t.cpu.hf = (if s.cpu.nf then s.cpu.hf && decide (a % 16 < 6) else decide (9 < a % 16))

/-- R291, R292, R327: after `ADD A,r` or `ADC A,r` of two packed BCD numbers, `DAA` leaves the packed BCD sum modulo
100 in `A` and the hundred in `CF`. -/
def Obligations.DecimalAdjustGivesBcdSums : Prop :=
  ∀ (s : State) (r : Reg8) (x y : Nat), x < 100 → y < 100 →
    s.cpu.a.toNat = 16 * (x / 10) + x % 10 → (s.reg r).toNat = 16 * (y / 10) + y % 10 →
    ∀ i ∈ ([(.addAR .none r, 0), (.adcAR .none r, s.cpu.cf.toNat)] : List (Instr × Nat)),
      ∃ t u, exec i.1 s = .next t ∧ exec (.daa .none) t = .next u ∧
        u.cpu.a.toNat = 16 * ((x + y + i.2) % 100 / 10) + (x + y + i.2) % 10 ∧
        u.cpu.cf = decide (100 ≤ x + y + i.2)

/-- R325, R326, R328: `SCF`, `CCF`, `CPL`. -/
def Obligations.CarryAndComplementInstructions : Prop :=
  ∀ (s : State) (p : Pass),
    (∃ t, exec (.scf p) s = .next t ∧ CpuOnly s t (4 + p.extra) ∧ t.cpu = { s.cpu with f := t.cpu.f } ∧
      t.cpu.cf = true ∧ t.cpu.hf = false ∧ t.cpu.nf = false ∧ t.cpu.yf = s.cpu.a.getLsbD 5 ∧
      t.cpu.xf = s.cpu.a.getLsbD 3 ∧ s.cpu.KeepsSZP t.cpu) ∧
    (∃ t, exec (.ccf p) s = .next t ∧ CpuOnly s t (4 + p.extra) ∧ t.cpu = { s.cpu with f := t.cpu.f } ∧
      t.cpu.cf = (!s.cpu.cf) ∧ t.cpu.hf = s.cpu.cf ∧ t.cpu.nf = false ∧ t.cpu.yf = s.cpu.a.getLsbD 5 ∧
      t.cpu.xf = s.cpu.a.getLsbD 3 ∧ s.cpu.KeepsSZP t.cpu) ∧
    (∃ t, exec (.cpl p) s = .next t ∧ CpuOnly s t (4 + p.extra) ∧ s.cpu.OnlyRegAndFlags t.cpu .a (~~~s.cpu.a) ∧
      t.cpu.hf = true ∧ t.cpu.nf = true ∧ t.cpu.yf = (!s.cpu.a.getLsbD 5) ∧ t.cpu.xf = (!s.cpu.a.getLsbD 3) ∧
      t.cpu.cf = s.cpu.cf ∧ s.cpu.KeepsSZP t.cpu)

/-! ### 16-bit arithmetic (spec/45) -/

/-- R350, R353: `ADD HL,ss`, `ADD IX,pp`, `ADD IY,rr`; `SF`, `ZF` and `PF` stay. R354 to R357: `INC` and `DEC` of a
pair or an index register write no flag. -/
def Obligations.WordAdditionsAndIncrements : Prop :=
  ∀ (s : State) (p : Pass) (q : Pair) (iq : IxPair),
    let flags (c : Cpu) (a v : Word) (sum : Word) : Prop :=
      c.hf = decide (4095 < a.toNat % 4096 + v.toNat % 4096) ∧ c.nf = false ∧
        c.cf = decide (65535 < a.toNat + v.toNat) ∧ c.yf = sum.getLsbD 13 ∧ c.xf = sum.getLsbD 11 ∧ s.cpu.KeepsSZP c
    (∃ t, exec (.addHlSs q) s = .next t ∧ CpuOnly s t 11 ∧
      t.cpu = { s.cpu with h := t.cpu.h, l := t.cpu.l, f := t.cpu.f } ∧ t.hl = s.hl + s.rp q ∧
      flags t.cpu s.hl (s.rp q) (s.hl + s.rp q)) ∧
    (∀ x ∈ ([(.addIxPp iq, .ix), (.addIyPp iq, .iy)] : List (Instr × Index)),
      let v : Word := match iq with | .bc => s.bc | .de => s.de | .ii => s.ii x.2 | .sp => s.cpu.sp
      ∃ t, exec x.1 s = .next t ∧ CpuOnly s t 15 ∧ s.cpu.OnlyIndexAndFlags t.cpu x.2 (s.ii x.2 + v) ∧
        flags t.cpu (s.ii x.2) v (s.ii x.2 + v)) ∧
    (∀ x ∈ ([(.incSs p q, 1), (.decSs p q, -1)] : List (Instr × Word)),
      ∃ t, exec x.1 s = .next t ∧ CpuOnly s t (6 + p.extra) ∧ s.cpu.OnlyPair t.cpu q (s.rp q + x.2)) ∧
    (∀ x ∈ ([(.incIx, .ix, 1), (.decIx, .ix, -1), (.incIy, .iy, 1), (.decIy, .iy, -1)] :
          List (Instr × Index × Word)),
      ∃ t, exec x.1 s = .next t ∧ CpuOnly s t 10 ∧ s.cpu.OnlyIndex t.cpu x.2.1 (s.ii x.2.1 + x.2.2))

/-- R351, R352 (with R17): `ADC HL,ss` and `SBC HL,ss`; `ZF` tests all sixteen bits. -/
def Obligations.WordAdditionsAndSubtractionsWithCarry : Prop :=
  ∀ (s : State) (q : Pair),
    let a := s.hl
    let v := s.rp q
    let c := s.cpu.cf.toNat
    let flags (d : Cpu) (r : Word) (signed : Int) : Prop :=
      d.sf = r.getLsbD 15 ∧ d.zf = decide (r = 0) ∧ d.yf = r.getLsbD 13 ∧ d.xf = r.getLsbD 11 ∧
        d.pf = decide (signed < -32768 ∨ 32767 < signed)
    (∃ t, exec (.adcHlSs q) s = .next t ∧ CpuOnly s t 15 ∧
      t.cpu = { s.cpu with h := t.cpu.h, l := t.cpu.l, f := t.cpu.f } ∧
      t.hl = BitVec.ofNat 16 (a.toNat + v.toNat + c) ∧ flags t.cpu t.hl (a.toInt + v.toInt + c) ∧
      t.cpu.hf = decide (4095 < a.toNat % 4096 + v.toNat % 4096 + c) ∧ t.cpu.nf = false ∧
      t.cpu.cf = decide (65535 < a.toNat + v.toNat + c)) ∧
    (∃ t, exec (.sbcHlSs q) s = .next t ∧ CpuOnly s t 15 ∧
      t.cpu = { s.cpu with h := t.cpu.h, l := t.cpu.l, f := t.cpu.f } ∧
      t.hl = BitVec.ofInt 16 ((a.toNat : Int) - v.toNat - c) ∧ flags t.cpu t.hl (a.toInt - v.toInt - c) ∧
      t.cpu.hf = decide (a.toNat % 4096 < v.toNat % 4096 + c) ∧ t.cpu.nf = true ∧
      t.cpu.cf = decide ((a.toNat : Int) - v.toNat - c < 0))

/-! ### Rotates and shifts (spec/46) -/

/-- R370 to R373: `RLCA`, `RRCA`, `RLA`, `RRA`; `SF`, `ZF` and `PF` stay. -/
def Obligations.AccumulatorRotates : Prop :=
  ∀ (s : State) (p : Pass),
    let a := s.cpu.a.toNat
    let c := s.cpu.cf.toNat
    ∀ x ∈ ([(.rlca p, a * 2 % 256 + a / 128, a / 128), (.rrca p, a / 2 + 128 * (a % 2), a % 2),
            (.rla p, a * 2 % 256 + c, a / 128), (.rra p, a / 2 + 128 * c, a % 2)] : List (Instr × Nat × Nat)),
      let r : Byte := BitVec.ofNat 8 x.2.1
      ∃ t, exec x.1 s = .next t ∧ CpuOnly s t (4 + p.extra) ∧ s.cpu.OnlyRegAndFlags t.cpu .a r ∧
        t.cpu.cf = decide (x.2.2 = 1) ∧ t.cpu.hf = false ∧ t.cpu.nf = false ∧ t.cpu.yf = r.getLsbD 5 ∧
        t.cpu.xf = r.getLsbD 3 ∧ s.cpu.KeepsSZP t.cpu

/-- R163, R374 to R382: the eight rotates and shifts of a register and of a memory byte, and the undocumented forms
that also copy the result to a register. -/
def Obligations.RotatesAndShifts : Prop :=
  ∀ (s : State) (d : Byte) (r : Reg8),
    ∀ x ∈ rotations,
      let stored (i : Instr) (addr : Word) (n : Nat) (copy : Option Reg8) : Prop :=
        let v := (s.busRead addr).toNat
        let w : Byte := BitVec.ofNat 8 (x.result v s.cpu.cf.toNat)
        ∃ t, exec i s = .next t ∧ StoresByte s t addr w n ∧
          (match copy with
            | none => t.cpu = { s.cpu with f := t.cpu.f }
            | some r' => s.cpu.OnlyRegAndFlags t.cpu r' w) ∧
          t.cpu.Shows w ∧ t.cpu.hf = false ∧ t.cpu.pf = evenOnes w ∧ t.cpu.nf = false ∧
          t.cpu.cf = decide (x.out v = 1)
      (let v := (s.reg r).toNat
       let w : Byte := BitVec.ofNat 8 (x.result v s.cpu.cf.toNat)
       ∃ t, exec (x.reg r) s = .next t ∧ CpuOnly s t 8 ∧ s.cpu.OnlyRegAndFlags t.cpu r w ∧
         t.cpu.Shows w ∧ t.cpu.hf = false ∧ t.cpu.pf = evenOnes w ∧ t.cpu.nf = false ∧
         t.cpu.cf = decide (x.out v = 1)) ∧
      stored x.hl s.hl 15 none ∧
      stored (x.ixd d) (s.idxAddr .ix d) 23 none ∧ stored (x.iyd d) (s.idxAddr .iy d) 23 none ∧
      stored (x.ixdR d r) (s.idxAddr .ix d) 23 (some r) ∧ stored (x.iydR d r) (s.idxAddr .iy d) 23 (some r)

/-- R383, R384: `RLD` and `RRD` turn the three nibbles by one place; `CF` stays. -/
def Obligations.DigitRotates : Prop :=
  ∀ s : State,
    let a := s.cpu.a.toNat
    let m := (s.busRead s.hl).toNat
    ∀ x ∈ ([(.rld, m * 16 % 256 + a % 16, a / 16 * 16 + m / 16),
            (.rrd, a % 16 * 16 + m / 16, a / 16 * 16 + m % 16)] : List (Instr × Nat × Nat)),
      let w : Byte := BitVec.ofNat 8 x.2.2
      ∃ t, exec x.1 s = .next t ∧ StoresByte s t s.hl (BitVec.ofNat 8 x.2.1) 18 ∧
        s.cpu.OnlyRegAndFlags t.cpu .a w ∧ t.cpu.Shows w ∧ t.cpu.hf = false ∧ t.cpu.pf = evenOnes w ∧
        t.cpu.nf = false ∧ t.cpu.cf = s.cpu.cf

/-! ### Bits (spec/47) -/

/-- R400 to R402: `BIT b` of a register, of `(HL)` and of an indexed byte. Of `YF` and `XF` after `BIT b,(HL)` the
statement says nothing: each is a free value (log 14). -/
def Obligations.BitTests : Prop :=
  ∀ (s : State) (b z : Code3) (r : Reg8) (d : Byte),
    let tested (c : Cpu) (v : Byte) : Prop :=
      c = { s.cpu with f := c.f } ∧ c.zf = (!v.getLsbD b.val) ∧ c.pf = (!v.getLsbD b.val) ∧
        c.sf = decide (b.val = 7 ∧ v.getLsbD 7 = true) ∧ c.hf = true ∧ c.nf = false ∧ c.cf = s.cpu.cf
    (∃ t, exec (.bitR b r) s = .next t ∧ CpuOnly s t 8 ∧ tested t.cpu (s.reg r) ∧
      t.cpu.yf = (s.reg r).getLsbD 5 ∧ t.cpu.xf = (s.reg r).getLsbD 3) ∧
    (∃ t, exec (.bitHl b) s = .next t ∧ CpuOnly s { t with draws := s.draws } 12 ∧ tested t.cpu (s.busRead s.hl)) ∧
    (∀ x ∈ ([(.bitIxd b d z, s.idxAddr .ix d), (.bitIyd b d z, s.idxAddr .iy d)] : List (Instr × Word)),
      ∃ t, exec x.1 s = .next t ∧ CpuOnly s t 20 ∧ tested t.cpu (s.busRead x.2) ∧
        t.cpu.yf = x.2.getLsbD 13 ∧ t.cpu.xf = x.2.getLsbD 11)

/-- R403 to R410: `SET` and `RES` change one bit of a register or of a memory byte, and no flag; the undocumented
forms also copy the byte to a register. -/
def Obligations.BitChanges : Prop :=
  ∀ (s : State) (b : Code3) (r : Reg8) (d : Byte),
    ∀ x ∈ bitChanges b r d,
      let changed (v w : Byte) : Prop := ∀ k, k < 8 → w.getLsbD k = if k = b.val then x.value else v.getLsbD k
      (∃ t w, exec x.reg s = .next t ∧ changed (s.reg r) w ∧ CpuOnly s t 8 ∧ s.cpu.OnlyReg t.cpu r w) ∧
      (∃ t w, exec x.hl s = .next t ∧ changed (s.busRead s.hl) w ∧ StoresByte s t s.hl w 15 ∧ t.cpu = s.cpu) ∧
      (∃ t w, exec x.ixd s = .next t ∧ changed (s.busRead (s.idxAddr .ix d)) w ∧
        StoresByte s t (s.idxAddr .ix d) w 23 ∧ t.cpu = s.cpu) ∧
      (∃ t w, exec x.iyd s = .next t ∧ changed (s.busRead (s.idxAddr .iy d)) w ∧
        StoresByte s t (s.idxAddr .iy d) w 23 ∧ t.cpu = s.cpu) ∧
      (∃ t w, exec x.ixdR s = .next t ∧ changed (s.busRead (s.idxAddr .ix d)) w ∧
        StoresByte s t (s.idxAddr .ix d) w 23 ∧ s.cpu.OnlyReg t.cpu r w) ∧
      (∃ t w, exec x.iydR s = .next t ∧ changed (s.busRead (s.idxAddr .iy d)) w ∧
        StoresByte s t (s.idxAddr .iy d) w 23 ∧ s.cpu.OnlyReg t.cpu r w)

/-! ### Jumps, calls, returns (spec/48) -/

/-- R420 to R426: the jumps change `PC` (and `DJNZ` the register `B`) and nothing else. -/
def Obligations.JumpsChangeOnlyThePc : Prop :=
  ∀ (s : State) (p : Pass) (cc : Cond) (jc : JrCond) (nn : Word) (e : Byte),
    let target := BitVec.ofInt 16 ((s.cpu.pc.toNat : Int) + e.toInt)
    let j := s.cpu.meets jc.cond
    (∀ x ∈ ([(.jpNn p nn, nn, 10 + p.extra), (.jpCcNn p cc nn, if s.cpu.meets cc then nn else s.cpu.pc, 10 + p.extra),
             (.jrE p e, target, 12 + p.extra),
             (.jrCcE p jc e, if j then target else s.cpu.pc, if j then 12 + p.extra else 7 + p.extra),
             (.jpHl, s.cpu.h ++ s.cpu.l, 4), (.jpIx, s.cpu.ix, 8), (.jpIy, s.cpu.iy, 8)] :
          List (Instr × Word × Nat)),
      ∃ t, exec x.1 s = .next t ∧ CpuOnly s t x.2.2 ∧ t.cpu = { s.cpu with pc := x.2.1 }) ∧
    (∃ t, exec (.djnz p e) s = .next t ∧ CpuOnly s t (if s.cpu.b = 1 then 8 + p.extra else 13 + p.extra) ∧
      t.cpu = { s.cpu with b := s.cpu.b - 1, pc := if s.cpu.b = 1 then s.cpu.pc else target })

/-- R430, R431, R436: a call or a restart pushes `PC`, the high byte first, and goes to its target; a call whose
condition fails does nothing. -/
def Obligations.CallsPushThePc : Prop :=
  ∀ (s : State) (p : Pass) (cc : Cond) (nn : Word) (y : Code3),
    (∀ x ∈ ([(.callNn p nn, nn, 17 + p.extra), (.rst p y, BitVec.ofNat 16 (8 * y.val), 11 + p.extra)] ++
          (if s.cpu.meets cc then [(.callCcNn p cc nn, nn, 17 + p.extra)] else []) : List (Instr × Word × Nat)),
      ∃ t, exec x.1 s = .next t ∧
        StoresTwo s t (s.cpu.sp - 1) (hi s.cpu.pc) (s.cpu.sp - 2) (lo s.cpu.pc) x.2.2 ∧
        t.cpu = { s.cpu with sp := s.cpu.sp - 2, pc := x.2.1 }) ∧
    (s.cpu.meets cc = false → exec (.callCcNn p cc nn) s = .next { s with cycles := 10 + p.extra })

/-- R432 to R435: a return takes `PC` from the stack, `RETI` and `RETN` also copy `IFF2` into `IFF1`; a return whose
condition fails does nothing. -/
def Obligations.ReturnsPopThePc : Prop :=
  ∀ (s : State) (p : Pass) (cc : Cond) (y : Code3),
    let back : Cpu := { s.cpu with pc := s.busRead (s.cpu.sp + 1) ++ s.busRead s.cpu.sp, sp := s.cpu.sp + 2 }
    (∀ x ∈ ([(.ret p, back, 10 + p.extra), (.reti, { back with iff1 := s.cpu.iff2 }, 14),
             (.retn y, { back with iff1 := s.cpu.iff2 }, 14),
             (.retCc p cc, if s.cpu.meets cc then back else s.cpu,
               if s.cpu.meets cc then 11 + p.extra else 5 + p.extra)] : List (Instr × Cpu × Nat)),
      ∃ t, exec x.1 s = .next t ∧ CpuOnly s t x.2.2 ∧ t.cpu = x.2.1)

/-! ### Input and output (spec/49) -/

/-- R450 to R455, R121: inputs take the byte of their port, whatever it is, with the flags of that byte; outputs write
the interrupt vector and nothing else. `s.ioRead` is the free value of the read (log 13): the statement holds for
every value of it. -/
def Obligations.PortInputsAndOutputs : Prop :=
  ∀ (s : State) (p : Pass) (r : Reg8) (n : Byte),
    let v := s.ioRead s.bc
    let input (c : Cpu) : Prop :=
      c.Shows v ∧ c.hf = false ∧ c.pf = evenOnes v ∧ c.nf = false ∧ c.cf = s.cpu.cf
    (∃ t, exec (.inAN p n) s = .next t ∧ CpuOnly s { t with draws := s.draws } (11 + p.extra) ∧
      t.cpu = { s.cpu with a := s.ioRead (s.cpu.a ++ n) }) ∧
    (∃ t, exec (.inRC r) s = .next t ∧ CpuOnly s { t with draws := s.draws } 12 ∧
      s.cpu.OnlyRegAndFlags t.cpu r v ∧ input t.cpu) ∧
    (∃ t, exec .inC s = .next t ∧ CpuOnly s { t with draws := s.draws } 12 ∧
      t.cpu = { s.cpu with f := t.cpu.f } ∧ input t.cpu) ∧
    (∀ x ∈ ([(.outNA p n, s.cpu.a, 11 + p.extra), (.outCR r, s.reg r, 12), (.outC0, 0, 12)] :
          List (Instr × Byte × Nat)),
      exec x.1 s = .next { s with bus := { s.bus with intVector := x.2.1 }, cycles := x.2.2 })

/-- R456 to R463: block input and output. The byte an input stores is the free value of its port, read with the old
`B`; an output sends the byte at `HL` to the interrupt vector. -/
def Obligations.BlockInputsAndOutputs : Prop :=
  ∀ s : State,
    let bn := s.cpu.b - 1
    let counted (c : Cpu) (v : Byte) (k : Nat) (again : Bool) (hl : Word) : Prop :=
      c = { s.cpu with b := bn, h := hi hl, l := lo hl, f := c.f
                       pc := if again then s.cpu.pc - 2 else s.cpu.pc } ∧
        c.Shows bn ∧ c.nf = v.getLsbD 7 ∧ c.hf = decide (255 < k) ∧ c.cf = decide (255 < k) ∧
        c.pf = evenOnes (BitVec.ofNat 8 (k % 8) ^^^ bn)
    (∀ x ∈ ([(.ini, 1, 1, false), (.ind, -1, -1, false), (.inir, 1, 1, true), (.indr, -1, -1, true)] :
          List (Instr × Word × Byte × Bool)),
      let v := s.ioRead s.bc
      let again := x.2.2.2 && decide (bn ≠ 0)
      ∃ t, exec x.1 s = .next t ∧ StoresByte s { t with draws := s.draws } s.hl v (if again then 21 else 16) ∧
        counted t.cpu v (v.toNat + (s.cpu.c + x.2.2.1).toNat) again (s.hl + x.2.1)) ∧
    (∀ x ∈ ([(.outi, 1, false), (.outd, -1, false), (.otir, 1, true), (.otdr, -1, true)] :
          List (Instr × Word × Bool)),
      let v := s.busRead s.hl
      let again := x.2.2 && decide (bn ≠ 0)
      ∃ t, exec x.1 s = .next t ∧
        t = { s with cpu := t.cpu, bus := { s.bus with intVector := v }, cycles := if again then 21 else 16 } ∧
        (∀ a : Word, t.busRead a = s.busRead a) ∧
        counted t.cpu v (v.toNat + (lo (s.hl + x.2.1)).toNat) again (s.hl + x.2.1))

/-! ### The bus (spec/20) -/

/-- R85, R86, R90, R95, R96, R98 to R101, R106: what each address reads as. Three values here are the model's choice:
`CABINET_BIT` = 1 (bit 7 of the second port) and `DIP_SWITCHES` stand at the values of R8 (log 10), and an unmapped
address reads as the constant `UNMAPPED_READ`, where R106 allows a draw (log 11). Bits 3..0 of the second port follow
the same four signals as those of the first (R99, log 22). -/
def Obligations.BusReadsFollowTheMap : Prop :=
  ∀ (s : State) (addr : Word),
    let a := addr.toNat % 32768
    let i := s.bus.inputs
    s.busRead addr =
      if a ≤ 0x3FFF then s.roms.prog.read a
      else if a ≤ 0x4FFF then s.bus.ram.read (a - 0x4000)
      else if a ≤ 0x503F then
        255 - (BitVec.ofNat 8 (i.up.toNat + 2 * i.left.toNat + 4 * i.right.toNat + 8 * i.down.toNat +
          16 * i.rackAdvance.toNat + 32 * i.coin1.toNat + 64 * i.coin2.toNat + 128 * i.credit.toNat))
      else if a ≤ 0x507F then
        255 - (BitVec.ofNat 8 (i.up.toNat + 2 * i.left.toNat + 4 * i.right.toNat + 8 * i.down.toNat +
          16 * i.boardTest.toNat + 32 * i.start1.toNat + 64 * i.start2.toNat))
      else if a ≤ 0x50BF then Config.dipSwitches
      else Config.unmappedRead

/-- R85, R86, R91, R95, R96, R102 to R106: what a write at each address does, and that it does nothing else; a byte
read back in RAM is the last one written at any mirror of its address. -/
def Obligations.BusWritesFollowTheMap : Prop :=
  ∀ (s : State) (addr : Word) (v : Byte),
    let a := addr.toNat % 32768
    (∀ b : Word, (s.busWrite addr v).busRead b = readAfter addr v b (s.busRead b)) ∧
    (s.busWrite addr v).bus.ram.read = (fun k =>
      if 0x4000 ≤ a ∧ a ≤ 0x4FFF ∧ k = a - 0x4000 then v else s.bus.ram.read k) ∧
    (s.busWrite addr v).bus.spritePos.read = (fun k =>
      if 0x5060 ≤ a ∧ a ≤ 0x506F ∧ k = a - 0x5060 then v else s.bus.spritePos.read k) ∧
    s.busWrite addr v =
      { s with
        bus := { s.bus with
          ram := (s.busWrite addr v).bus.ram
          spritePos := (s.busWrite addr v).bus.spritePos
          intEnable := if a = 0x5000 then v.getLsbD 0 else s.bus.intEnable
          soundEnable := if a = 0x5001 then v.getLsbD 0 else s.bus.soundEnable
          flipScreen := if a = 0x5003 then v.getLsbD 0 else s.bus.flipScreen }
        audio := if 0x5040 ≤ a ∧ a ≤ 0x505F then s.audio.write (a - 0x5040) v else s.audio }

/-! ### The interrupt (spec/60) -/

/-- R510 to R514, R522: `raise_interrupt` refused changes nothing; accepted it wakes the CPU, disables interrupts,
advances `R`, pushes `PC` and goes to the target of the interrupt mode, which in mode 2 is read after the push. That
the target follows the interrupt mode is the model's choice of R514: `INT_MODE_POLICY` is `per_IM` (log 12). The costs
are the values of R8 (log 10). -/
def Obligations.InterruptEntry : Prop :=
  ∀ (s : State) (vector : Byte),
    if s.cpu.iff1 = false ∨ s.cpu.eiDelay = true then s.raiseInterrupt vector = (s, 0)
    else
      let pushed := (s.busWrite (s.cpu.sp - 1) (hi s.cpu.pc)).busWrite (s.cpu.sp - 2) (lo s.cpu.pc)
      let target : Word :=
        match s.cpu.im with
        | .im0 => BitVec.ofNat 16 (vector.toNat / 8 % 8 * 8)
        | .im1 => 0x0038
        | .im2 => pushed.busRead ((s.cpu.i ++ vector) + 1) ++ pushed.busRead (s.cpu.i ++ vector)
      let cost := match s.cpu.im with | .im0 => 13 | .im1 => 13 | .im2 => 19
      s.raiseInterrupt vector =
        ({ pushed with
           cpu := { s.cpu with halted := false, iff1 := false, iff2 := false, r := incR s.cpu.r 1
                               sp := s.cpu.sp - 2, pc := target } }, cost)

/-- R515: what an accepted interrupt pushed in RAM, `RETI` takes back: `PC` and `SP` are as before the entry, and
interrupts are still disabled. -/
def Obligations.ReturnFromInterruptResumes : Prop :=
  ∀ (s : State) (vector : Byte), s.cpu.iff1 = true → s.cpu.eiDelay = false →
    (∀ k ∈ [1, 2], ∃ j, readTarget (s.cpu.sp - k) = .ram j) →
    ∃ t, exec .reti (s.raiseInterrupt vector).1 = .next t ∧
      t.cpu = { s.cpu with halted := false, iff1 := false, iff2 := false, r := incR s.cpu.r 1 }

/-! ### The scheduler (spec/60) -/

/-- R516, R520, R521, R523: after a CPU step of `c` cycles the frame counter grows by `c`; below F nothing else
happens; at F the excess is carried and the boundary follows, the interrupt first (only with `int_enable`), then the
picture, then the audio, and the cost of the entry is added to both. F = 51200, the sample rate and FPS are the values
of R8 (log 10). -/
def Obligations.FrameBoundaryAfterEveryFCycles : Prop :=
  ∀ s : State,
    let fc := s.sched.frameCyc + s.cycles
    s.account =
      if fc < 51200 then { s with sched := { s.sched with frameCyc := fc } }
      else
        let t := { s with sched := { s.sched with frameCyc := fc - 51200 } }
        let u := if t.bus.intEnable then t.raiseInterrupt t.bus.intVector else (t, 0)
        let v := u.1.compose
        let owed := v.sched.sampleAcc + 44100 * (if v.sched.speed = .x1 then 2 else 1)
        let w := { v with sched := { v.sched with sampleAcc := owed % 120 } }.pushSamples (owed / 120)
        { w with
          sched := { w.sched with frameCyc := w.sched.frameCyc + u.2 }
          cycles := s.cycles + u.2 }

/-- R524, R525: `advance` returns, with less than one cycle owed and at most 41 cycles run too many, from every state
between two of its calls; the cycles run are exactly what the accumulator has lost. The rate 3072000 is the value of
`CLOCK_HZ` in R8 (log 10). `table = main` says that no bare prefix is under way (the model's own field, log 8). The loop
of the model has a bound (log 20): the chain ends by the test of R524, never by the bound. -/
def Obligations.AdvanceRunsTheCyclesOwed : Prop :=
  ∀ (s : State) (ms : Nat), s.table = .main → -41000 ≤ s.sched.cycleAcc → s.sched.cycleAcc < 1000 →
    ∃ t, s.advance ms = .next t ∧ t.table = .main ∧ -41000 ≤ t.sched.cycleAcc ∧ t.sched.cycleAcc < 1000 ∧
      ∃ run : List State,
        run.head? = some (s.owe ms) ∧ run.getLast? = some t ∧
        run.IsChain (fun u v => ∃ w, 1000 ≤ u.sched.cycleAcc ∧ step u = .next w ∧ v = w.pay) ∧
        t.sched.cycleAcc =
          s.sched.cycleAcc + ms * 3072000 * s.sched.speed.factor - 1000 * ((run.tail.map (fun u => u.cycles)).sum : Nat)

/-! ### Video (spec/61) -/

/-- R585, R586: the ScreenBuffer after a compose, byte by byte; with `flip_screen` it is the exact mirror about both
axes of what the same state gives without it. -/
def Obligations.ScreenFlipMirrorsThePicture : Prop :=
  ∀ (s : State) (x y : Nat), x < 224 → y < 288 →
    s.compose = { s with screen := s.compose.screen } ∧
    ({ s with bus := { s.bus with flipScreen := false } }.compose).screenPixel x y = s.framePixel x y ∧
    ({ s with bus := { s.bus with flipScreen := true } }.compose).screenPixel x y =
      ({ s with bus := { s.bus with flipScreen := false } }.compose).screenPixel (223 - x) (287 - y)

/-- R590: where no sprite has a pixel over it, a cell of the composed picture shows its tile in its palette; and in
numbers what that is. R562: the pixel of a strip. R563: the pixel of a tile, strip 1 above strip 0. R566: the three
channels of a colour byte. R567: the lookup through the palette and the colour ROM. -/
def Obligations.ComposeShowsTheTile : Prop :=
  ∀ s : State,
    (∀ (size base col row : Nat) (rom : Rom size), col < 8 → row < 4 →
      let v := (rom.read (base + (7 - col))).toNat
      stripPixel rom base col row = v / 2 ^ (3 - row) % 2 + 2 * (v / 2 ^ (7 - row) % 2)) ∧
    (∀ t px py : Nat, t < 256 → px < 8 → py < 8 →
      let v := (s.roms.tile.read (16 * t + (if py < 4 then 8 else 0) + (7 - px))).toNat
      tilePixel s.roms t px py = v / 2 ^ (3 - py % 4) % 2 + 2 * (v / 2 ^ (7 - py % 4) % 2)) ∧
    (∀ c : Byte,
      let bit (k : Nat) : Nat := c.toNat / 2 ^ k % 2
      (rgbOf c).red.toNat = 0x21 * bit 0 + 0x47 * bit 1 + 0x97 * bit 2 ∧
      (rgbOf c).green.toNat = 0x21 * bit 3 + 0x47 * bit 4 + 0x97 * bit 5 ∧
      (rgbOf c).blue.toNat = 0x51 * bit 6 + 0xAE * bit 7) ∧
    (∀ (a : Byte) (idx : Nat), idx < 4 →
      colour s.roms a idx =
        rgbOf (s.roms.color.read ((s.roms.palette.read (4 * (a.toNat % 64) + idx)).toNat % 16))) ∧
    ∀ tx ty px py : Nat, tx < 28 → ty < 36 → px < 8 → py < 8 → s.bus.flipScreen = false →
      (∀ k, k < 8 → s.spritePixelAt k (8 * tx + px) (8 * ty + py) = none) →
      let o := if ty ≤ 1 then 0x3C0 + 32 * ty + (29 - tx) else if ty ≤ 33 then 32 * (29 - tx) + (ty - 2)
        else 32 * (ty - 34) + (29 - tx)
      s.compose.screenPixel (8 * tx + px) (8 * ty + py) =
        colour s.roms (s.bus.ram.read (o + 0x400)) (tilePixel s.roms (s.bus.ram.read o).toNat px py)

/-- R580, R581: where sprite `k` has a pixel and no sprite of a lower number has one, the composed picture shows it,
over every tile and every sprite of a higher number; and in numbers where a sprite has a pixel and which. R564: the
pixel of a sprite image, its eight strips in their places. R580: image number, flips and attribute from the top of RAM,
the corner from the position table, index 0 transparent, no wrap at the edges of the picture. -/
def Obligations.LowerSpritesAreInFront : Prop :=
  ∀ s : State,
    (∀ n px py : Nat, n < 64 → px < 16 → py < 16 →
      let strip := (if px < 8 then 4 else 0) + (if py < 4 then 1 else if py < 8 then 2 else if py < 12 then 3 else 0)
      let v := (s.roms.sprite.read (64 * n + 8 * strip + (7 - px % 8))).toNat
      spritePixel s.roms n px py = v / 2 ^ (3 - py % 4) % 2 + 2 * (v / 2 ^ (7 - py % 4) % 2)) ∧
    (∀ k x y : Nat, k < 8 → x < 224 → y < 288 →
      let b := (s.bus.ram.read (0xFF0 + 2 * k)).toNat
      let dx : Int := x - (239 - ((s.bus.spritePos.read (2 * k)).toNat : Int))
      let dy : Int := y - (272 - ((s.bus.spritePos.read (2 * k + 1)).toNat : Int))
      let sx := if b / 2 % 2 = 1 then (15 - dx).toNat else dx.toNat
      let sy := if b % 2 = 1 then (15 - dy).toNat else dy.toNat
      let idx := spritePixel s.roms (b / 4) sx sy
      s.spritePixelAt k x y =
        if 0 ≤ dx ∧ dx < 16 ∧ 0 ≤ dy ∧ dy < 16 ∧ idx ≠ 0 then some (colour s.roms (s.bus.ram.read (0xFF1 + 2 * k)) idx)
        else none) ∧
    ∀ (k x y : Nat) (c : Rgb), k < 8 → x < 224 → y < 288 → s.bus.flipScreen = false →
      s.spritePixelAt k x y = some c → (∀ j, j < k → s.spritePixelAt j x y = none) →
      s.compose.screenPixel x y = c

/-! ### Audio (spec/62) -/

/-- R602, R603: an audio register takes the low nibble of the byte written, and the other registers stay; nibble `k`
of a frequency is worth `16 ^ k`. -/
def Obligations.AudioRegistersTakeNibbles : Prop :=
  ∀ (au : Audio) (off : Nat) (v : Byte), off < 32 →
    let d := v.toNat % 16
    let freq (old : BitVec 20) (first : Nat) (new : BitVec 20) : Prop :=
      ∀ k, k < 5 → new.toNat / 16 ^ k % 16 = if off = first + k then d else old.toNat / 16 ^ k % 16
    let t := au.write off v
    t = { au with
          ch0 := { au.ch0 with freq := t.ch0.freq, wave := t.ch0.wave, vol := t.ch0.vol }
          ch1 := { au.ch1 with freq := t.ch1.freq, wave := t.ch1.wave, vol := t.ch1.vol }
          ch2 := { au.ch2 with freq := t.ch2.freq, wave := t.ch2.wave, vol := t.ch2.vol } } ∧
    t.ch0.wave.toNat = (if off = 0x05 then d % 8 else au.ch0.wave.toNat) ∧
    t.ch1.wave.toNat = (if off = 0x0A then d % 8 else au.ch1.wave.toNat) ∧
    t.ch2.wave.toNat = (if off = 0x0F then d % 8 else au.ch2.wave.toNat) ∧
    t.ch0.vol.toNat = (if off = 0x15 then d else au.ch0.vol.toNat) ∧
    t.ch1.vol.toNat = (if off = 0x1A then d else au.ch1.vol.toNat) ∧
    t.ch2.vol.toNat = (if off = 0x1F then d else au.ch2.vol.toNat) ∧
    freq au.ch0.freq 0x10 t.ch0.freq ∧
    (∀ k, k < 5 → t.ch1.freq.toNat / 16 ^ k % 16 =
      if off = 0x15 + k ∧ 1 ≤ k then d else au.ch1.freq.toNat / 16 ^ k % 16) ∧
    (∀ k, k < 5 → t.ch2.freq.toNat / 16 ^ k % 16 =
      if off = 0x1A + k ∧ 1 ≤ k then d else au.ch2.freq.toNat / 16 ^ k % 16)

/-- R605, R610, R612: one call of `render_sample`: every active channel advances its phase modulo 2^20 and adds the
sample at its new position times its volume; the sum times 50, or 0 while muted or disabled, is pushed, and it never
leaves the 16-bit range. The gain 50 is the value of R8 (log 10). -/
def Obligations.RenderSampleMixesThreeChannels : Prop :=
  ∀ s : State,
    let advanced (c : Channel) : Nat := if c.freq = 0 then c.acc.toNat else (c.acc.toNat + c.freq.toNat) % 1048576
    let term (c : Channel) : Int :=
      if c.freq = 0 then 0
      else (((s.roms.wave1.read (32 * c.wave.toNat + advanced c / 32768)).toNat % 16 : Nat) - 8 : Int) * c.vol.toNat
    let mix := term s.audio.ch0 + term s.audio.ch1 + term s.audio.ch2
    let out := if s.audio.mute = true ∨ s.bus.soundEnable = false then 0 else 50 * mix
    let t := s.pushSample
    t = { s with audio := { s.audio with
            ch0 := { s.audio.ch0 with acc := t.audio.ch0.acc }
            ch1 := { s.audio.ch1 with acc := t.audio.ch1.acc }
            ch2 := { s.audio.ch2 with acc := t.audio.ch2.acc }
            pushed := t.audio.pushed } } ∧
    t.audio.ch0.acc.toNat = advanced s.audio.ch0 ∧ t.audio.ch1.acc.toNat = advanced s.audio.ch1 ∧
    t.audio.ch2.acc.toNat = advanced s.audio.ch2 ∧
    t.samples = s.samples ++ [out] ∧ -18000 ≤ out ∧ out ≤ 15750

/-- R612: after any number of samples the phases are the same whether or not `mute` or `sound_enable` was set. -/
def Obligations.MuteKeepsThePhases : Prop :=
  ∀ (s : State) (n : Nat) (m e : Bool),
    let t := { s with audio := { s.audio with mute := m }, bus := { s.bus with soundEnable := e } }
    ((t.pushSamples n).audio.ch0.acc, (t.pushSamples n).audio.ch1.acc, (t.pushSamples n).audio.ch2.acc) =
      ((s.pushSamples n).audio.ch0.acc, (s.pushSamples n).audio.ch1.acc, (s.pushSamples n).audio.ch2.acc) ∧
    (t.pushSamples n).samples.length = (s.pushSamples n).samples.length ∧
    (m = true ∨ e = false → (t.pushSamples n).samples = s.samples ++ List.replicate n 0)

end
end

