-- ==== Sys2Proof/Laws/Arith.lean ====
section
/-! SUPPORT. The arithmetic helpers of R15 to R17 in terms of the signed operands, and the rotates in numbers. -/

namespace Sys2Proof.Machine

/-- The top bit of a byte is its upper half. -/
theorem bitOf_seven (v : Byte) : bitOf v 7 = decide (128 ≤ v.toNat) := by
  revert v
  decide

/-- The top bit of a word is its upper half. -/
theorem getLsbD_fifteen (v : Word) : v.getLsbD 15 = decide (32768 ≤ v.toNat) := by
  have h : v.getLsbD 15 = v.msb := by simp [BitVec.msb_eq_getLsbD_last]
  rw [h, BitVec.msb_eq_decide]

/-- The overflow of R15 is that the exact signed sum lies outside -128..127. -/
theorem add8_v (a b : Byte) (c : Bool) :
    (add8 a b c).v = decide (a.toInt + b.toInt + c.toNat < -128 ∨ 127 < a.toInt + b.toInt + c.toNat) := by
  have ha := a.isLt
  have hb := b.isLt
  have hc : c.toNat ≤ 1 := Bool.toNat_le c
  rw [Bool.eq_iff_iff]
  simp only [add8, bitOf_seven, BitVec.toNat_ofNat, BitVec.toInt_eq_toNat_cond, Bool.and_eq_true,
    beq_iff_eq, bne_iff_ne, ne_eq, decide_eq_decide, decide_eq_true_eq]
  split_ifs <;> omega

/-- The overflow of R16 is that the exact signed difference lies outside -128..127. -/
theorem sub8_v (a b : Byte) (c : Bool) :
    (sub8 a b c).v = decide (a.toInt - b.toInt - c.toNat < -128 ∨ 127 < a.toInt - b.toInt - c.toNat) := by
  have ha := a.isLt
  have hb := b.isLt
  have hc : c.toNat ≤ 1 := Bool.toNat_le c
  rw [Bool.eq_iff_iff]
  simp only [sub8, bitOf_seven, BitVec.toNat_ofInt, BitVec.toInt_eq_toNat_cond, Bool.and_eq_true,
    bne_iff_ne, ne_eq, decide_eq_decide, decide_eq_true_eq]
  split_ifs <;> omega

/-- The overflow of `add16` is that the exact signed sum lies outside -32768..32767 (R17). -/
theorem add16_v (a b : Word) (c : Bool) :
    (add16 a b c).v = decide (a.toInt + b.toInt + c.toNat < -32768 ∨ 32767 < a.toInt + b.toInt + c.toNat) := by
  have ha := a.isLt
  have hb := b.isLt
  have hc : c.toNat ≤ 1 := Bool.toNat_le c
  rw [Bool.eq_iff_iff]
  simp only [add16, getLsbD_fifteen, BitVec.toNat_ofNat, BitVec.toInt_eq_toNat_cond, Bool.and_eq_true,
    beq_iff_eq, bne_iff_ne, ne_eq, decide_eq_decide, decide_eq_true_eq]
  split_ifs <;> omega

/-- The overflow of `sub16` is that the exact signed difference lies outside -32768..32767 (R17). -/
theorem sub16_v (a b : Word) (c : Bool) :
    (sub16 a b c).v = decide (a.toInt - b.toInt - c.toNat < -32768 ∨ 32767 < a.toInt - b.toInt - c.toNat) := by
  have ha := a.isLt
  have hb := b.isLt
  have hc : c.toNat ≤ 1 := Bool.toNat_le c
  rw [Bool.eq_iff_iff]
  simp only [sub16, getLsbD_fifteen, BitVec.toNat_ofInt, BitVec.toInt_eq_toNat_cond, Bool.and_eq_true,
    bne_iff_ne, ne_eq, decide_eq_decide, decide_eq_true_eq]
  split_ifs <;> omega

/-- Without a borrow the difference is the one of bytes (R16). -/
theorem sub8_r (a b : Byte) : (sub8 a b false).r = a - b := by
  apply BitVec.eq_of_toNat_eq
  have ha := a.isLt
  have hb := b.isLt
  simp only [sub8, BitVec.toNat_ofInt, BitVec.toNat_sub, Bool.toNat_false]
  omega

/-- Without a carry the sum is the one of words (R17). -/
theorem add16_r (a b : Word) : (add16 a b false).r = a + b := by
  apply BitVec.eq_of_toNat_eq
  simp [add16, BitVec.toNat_add]

end Sys2Proof.Machine
end

