-- ==== Sys2Proof/Laws/Memory.lean ====
section
/-! SUPPORT. The laws of sparse memories: read after write, every other offset, and the laws of ROM images. (That
the canonical form is kept stands in Machine/Memory.lean, where the type of an image needs it.) -/

namespace Sys2Proof.Machine

@[simp] theorem Memory.read_nil (k : Nat) : Memory.read [] k = Memory.blank := rfl

@[simp] theorem Memory.read_cons (j : Nat) (w : Byte) (m : Memory) (k : Nat) :
    Memory.read ((j, w) :: m) k = if j = k then w else Memory.read m k := rfl

theorem Memory.read_drop_same (m : Memory) (k : Nat) : (m.drop k).read k = Memory.blank := by
  induction m with
  | nil => rfl
  | cons c m ih =>
    obtain ⟨j, w⟩ := c
    by_cases h : j = k <;> simp [Memory.drop, h, ih]

theorem Memory.read_drop_other (m : Memory) (k k' : Nat) (h : k' ≠ k) : (m.drop k).read k' = m.read k' := by
  induction m with
  | nil => rfl
  | cons c m ih =>
    obtain ⟨j, w⟩ := c
    by_cases hj : j = k
    · subst hj
      simp [Memory.drop, ih, h.symm]
    · simp [Memory.drop, hj, ih]

theorem Memory.read_place_same (m : Memory) (k : Nat) (v : Byte) (h : ∀ c ∈ m, c.1 ≠ k) :
    (m.place k v).read k = v := by
  induction m with
  | nil => simp [Memory.place]
  | cons c m ih =>
    obtain ⟨j, w⟩ := c
    have hj : j ≠ k := h (j, w) (by simp)
    by_cases hk : k < j
    · simp [Memory.place, hk]
    · simp [Memory.place, hk, hj, ih (fun c hc => h c (by simp [hc]))]

theorem Memory.read_place_other (m : Memory) (k k' : Nat) (v : Byte) (h : k' ≠ k) :
    (m.place k v).read k' = m.read k' := by
  induction m with
  | nil => simp [Memory.place, h.symm]
  | cons c m ih =>
    obtain ⟨j, w⟩ := c
    by_cases hk : k < j
    · simp [Memory.place, hk, h.symm]
    · simp [Memory.place, hk, ih]

/-- Reading what was written at the same offset. -/
@[simp] theorem Memory.read_write_same (m : Memory) (k : Nat) (v : Byte) : (m.write k v).read k = v := by
  unfold Memory.write
  split
  · next h => rw [Memory.read_drop_same, h]
  · exact Memory.read_place_same _ _ _ fun c hc => ((Memory.mem_drop m k c).1 hc).2

/-- A write leaves every other offset alone. -/
theorem Memory.read_write_other (m : Memory) (k k' : Nat) (v : Byte) (h : k' ≠ k) :
    (m.write k v).read k' = m.read k' := by
  unfold Memory.write
  split
  · exact Memory.read_drop_other _ _ _ h
  · rw [Memory.read_place_other _ _ _ _ h, Memory.read_drop_other _ _ _ h]

/-- Both laws of reading after a write at once. -/
theorem Memory.read_write (m : Memory) (k k' : Nat) (v : Byte) :
    (m.write k v).read k' = if k' = k then v else m.read k' := by
  by_cases h : k' = k
  · simp [h]
  · simp [h, Memory.read_write_other]

theorem Memory.read_of_mem (m : Memory) (k : Nat) (v : Byte) (h : m.Pairwise (fun c d => c.1 < d.1))
    (hm : (k, v) ∈ m) : m.read k = v := by
  induction m with
  | nil => cases hm
  | cons x m ih =>
    obtain ⟨j, w⟩ := x
    rw [List.pairwise_cons] at h
    rcases List.mem_cons.1 hm with heq | hm
    · cases heq
      simp
    · have : j < k := h.1 (k, v) hm
      simp [Nat.ne_of_lt this, ih h.2 hm]

theorem Memory.read_of_forall_ne (m : Memory) (k : Nat) (h : ∀ c ∈ m, c.1 ≠ k) : m.read k = Memory.blank := by
  induction m with
  | nil => rfl
  | cons x m ih =>
    obtain ⟨j, w⟩ := x
    have hj : j ≠ k := h (j, w) (by simp)
    simp [hj, ih fun c hc => h c (by simp [hc])]

/-- Reading a tabulated memory inside its device gives the function back. -/
theorem Memory.read_tabulate (n : Nat) (g : Nat → Byte) (k : Nat) (hk : k < n) :
    (Memory.tabulate n g).read k = g k := by
  by_cases hb : g k = Memory.blank
  · rw [hb]
    refine Memory.read_of_forall_ne _ _ fun c hc heq => ?_
    have h := (Memory.mem_tabulate n g c).1 hc
    exact h.2.1 (heq ▸ hb)
  · exact Memory.read_of_mem _ _ _ (Memory.wfBelow_tabulate n g).1.1
      ((Memory.mem_tabulate n g (k, g k)).2 ⟨hk, hb, rfl⟩)

/-- An offset outside the device reads as blank in its canonical memory. -/
theorem Memory.read_of_wfBelow (n : Nat) (m : Memory) (k : Nat) (h : m.wfBelow n) (hk : n ≤ k) :
    m.read k = Memory.blank :=
  Memory.read_of_forall_ne m k fun c hc heq => absurd (h.2 c hc) (by omega)

/-- A byte replaced in an image. -/
theorem Rom.read_write {size : Nat} (r : Rom size) (k k' : Nat) (v : Byte) (h : k < size) :
    (r.write k v).read k' = if k' = k then v else r.read k' := by
  simp [Rom.write, Rom.read, h, Memory.read_write]

/-- An image made from bytes reads as those bytes. -/
theorem Rom.read_ofBytes (size : Nat) (bytes : List Byte) (k : Nat) (h : k < size) :
    (Rom.ofBytes size bytes).read k = bytes.getD k Memory.blank := by
  simp [Rom.ofBytes, Rom.read, Memory.read_tabulate, h]

@[simp] theorem Rom.read_blank (size k : Nat) : (Rom.blank size).read k = Memory.blank := rfl

/-- An image has no byte outside its length. -/
theorem Rom.read_of_le {size : Nat} (r : Rom size) (k : Nat) (h : size ≤ k) : r.read k = Memory.blank :=
  Memory.read_of_wfBelow size r.cells k r.fits h

end Sys2Proof.Machine
end

