-- ==== Sys2Proof/Laws/Bus.lean ====
section
/-! SUPPORT. What a bus write can do, once (R91), and what it leaves alone. -/

namespace Sys2Proof.Machine

/-- Everything a bus write can do (R86, R91, R102 to R106). -/
theorem State.busWrite_cases (s : State) (addr : Word) (v : Byte) :
    (∃ k, writeTarget addr = .ram k ∧ k < 4096 ∧
      s.busWrite addr v = { s with bus := { s.bus with ram := s.bus.ram.write k v } }) ∨
    (writeTarget addr = .intEnable ∧ s.busWrite addr v = { s with bus := { s.bus with intEnable := bitOf v 0 } }) ∨
    (writeTarget addr = .soundEnable ∧
      s.busWrite addr v = { s with bus := { s.bus with soundEnable := bitOf v 0 } }) ∨
    (writeTarget addr = .flipScreen ∧
      s.busWrite addr v = { s with bus := { s.bus with flipScreen := bitOf v 0 } }) ∨
    (∃ off, writeTarget addr = .audio off ∧ off < 32 ∧
      s.busWrite addr v = { s with audio := s.audio.write off v }) ∨
    (∃ k, writeTarget addr = .sprite k ∧ k < 16 ∧
      s.busWrite addr v = { s with bus := { s.bus with spritePos := s.bus.spritePos.write k v } }) ∨
    (writeTarget addr = .nothing ∧ s.busWrite addr v = s) := by
  unfold State.busWrite
  generalize ht : writeTarget addr = t
  have hr : ∀ k, t = .ram k → k < 4096 := by
    intro k hk
    subst hk
    unfold writeTarget at ht
    simp only at ht
    split_ifs at ht
    simp only [WriteTarget.ram.injEq] at ht
    omega
  have ha : ∀ k, t = .audio k → k < 32 := by
    intro k hk
    subst hk
    unfold writeTarget at ht
    simp only at ht
    split_ifs at ht
    simp only [WriteTarget.audio.injEq] at ht
    omega
  have hs : ∀ k, t = .sprite k → k < 16 := by
    intro k hk
    subst hk
    unfold writeTarget at ht
    simp only at ht
    split_ifs at ht
    simp only [WriteTarget.sprite.injEq] at ht
    omega
  cases t with
  | ram k => exact Or.inl ⟨k, rfl, hr k rfl, rfl⟩
  | intEnable => exact Or.inr (Or.inl ⟨rfl, rfl⟩)
  | soundEnable => exact Or.inr (Or.inr (Or.inl ⟨rfl, rfl⟩))
  | flipScreen => exact Or.inr (Or.inr (Or.inr (Or.inl ⟨rfl, rfl⟩)))
  | audio k => exact Or.inr (Or.inr (Or.inr (Or.inr (Or.inl ⟨k, rfl, ha k rfl, rfl⟩))))
  | sprite k => exact Or.inr (Or.inr (Or.inr (Or.inr (Or.inr (Or.inl ⟨k, rfl, hs k rfl, rfl⟩)))))
  | nothing => exact Or.inr (Or.inr (Or.inr (Or.inr (Or.inr (Or.inr ⟨rfl, rfl⟩)))))

@[simp] theorem State.busWrite_cpu (s : State) (a : Word) (v : Byte) : (s.busWrite a v).cpu = s.cpu := by
  unfold State.busWrite; split <;> rfl
@[simp] theorem State.busWrite_screen (s : State) (a : Word) (v : Byte) : (s.busWrite a v).screen = s.screen := by
  unfold State.busWrite; split <;> rfl
@[simp] theorem State.busWrite_sched (s : State) (a : Word) (v : Byte) : (s.busWrite a v).sched = s.sched := by
  unfold State.busWrite; split <;> rfl
@[simp] theorem State.busWrite_roms (s : State) (a : Word) (v : Byte) : (s.busWrite a v).roms = s.roms := by
  unfold State.busWrite; split <;> rfl
@[simp] theorem State.busWrite_draws (s : State) (a : Word) (v : Byte) : (s.busWrite a v).draws = s.draws := by
  unfold State.busWrite; split <;> rfl
@[simp] theorem State.busWrite_cycles (s : State) (a : Word) (v : Byte) : (s.busWrite a v).cycles = s.cycles := by
  unfold State.busWrite; split <;> rfl
@[simp] theorem State.busWrite_table (s : State) (a : Word) (v : Byte) : (s.busWrite a v).table = s.table := by
  unfold State.busWrite; split <;> rfl
@[simp] theorem State.busWrite_intVector (s : State) (a : Word) (v : Byte) :
    (s.busWrite a v).bus.intVector = s.bus.intVector := by
  unfold State.busWrite; split <;> rfl
@[simp] theorem State.busWrite_inputs (s : State) (a : Word) (v : Byte) :
    (s.busWrite a v).bus.inputs = s.bus.inputs := by
  unfold State.busWrite; split <;> rfl

theorem mirror_lt (a : Word) : mirror a < 32768 := Nat.mod_lt _ (by decide)

/-- A write into RAM goes to the offset a read of the same mirrored address comes from (R86, R96). -/
theorem writeTarget_ram_iff (a : Word) (k : Nat) : writeTarget a = .ram k ↔ readTarget a = .ram k := by
  unfold writeTarget readTarget
  simp only
  split_ifs <;> simp_all

/-- The RAM region of the map (R86). -/
theorem readTarget_ram (a : Word) (k : Nat) : readTarget a = .ram k ↔ mirror a = k + 0x4000 ∧ k < 4096 := by
  unfold readTarget
  simp only
  split_ifs <;> simp_all <;> omega

/-- A read depends only on the ROM, on RAM and on the input latches (R86, R90). -/
theorem State.busRead_congr (s t : State) (a : Word) (hr : t.roms.prog = s.roms.prog) (hm : t.bus.ram = s.bus.ram)
    (hi : t.bus.inputs = s.bus.inputs) : t.busRead a = s.busRead a := by
  unfold State.busRead
  rw [hr, hm, hi]

/-- Reading after a write: the byte written where the address is in RAM and mirrors the one written, else as before
(R85, R91, R96). -/
theorem State.busRead_busWrite (s : State) (a b : Word) (v : Byte) :
    (s.busWrite a v).busRead b =
      if mirror b = mirror a ∧ 0x4000 ≤ mirror a ∧ mirror a < 0x5000 then v else s.busRead b := by
  rcases s.busWrite_cases a v with ⟨k, ht, hk, hw⟩ | ⟨ht, hw⟩ | ⟨ht, hw⟩ | ⟨ht, hw⟩ | ⟨k, ht, -, hw⟩ |
    ⟨k, ht, -, hw⟩ | ⟨ht, hw⟩ <;> rw [hw]
  · rw [writeTarget_ram_iff, readTarget_ram] at ht
    split
    · next h =>
      have hb : readTarget b = .ram k := (readTarget_ram b k).2 (by omega)
      simp [State.busRead, hb]
    · next h =>
      unfold State.busRead
      cases hb : readTarget b with
      | ram j =>
        have := (readTarget_ram b j).1 hb
        exact Memory.read_write_other _ _ _ _ (by omega)
      | _ => rfl
  all_goals
    have hn : ¬ (0x4000 ≤ mirror a ∧ mirror a < 0x5000) := by
      intro h
      have hram := (writeTarget_ram_iff a _).2 ((readTarget_ram a (mirror a - 0x4000)).2 (by omega))
      rw [hram] at ht
      cases ht
    rw [if_neg fun h => hn h.2]
    try rfl

/-- A write leaves the byte at every other mirrored address alone. -/
theorem State.busRead_busWrite_other (s : State) (a b : Word) (v : Byte) (h : mirror b ≠ mirror a) :
    (s.busWrite a v).busRead b = s.busRead b := by
  rw [State.busRead_busWrite, if_neg fun hh => h hh.1]

end Sys2Proof.Machine
end

