-- ==== Sys2Proof/Laws/Canonical.lean ====
section
/-! SUPPORT. Every operation that touches a memory of the machine keeps its canonical form, and the absent nibbles of
R601 stay 0; the memories after reset are canonical. -/

namespace Sys2Proof.Machine

/-- A bus write keeps RAM canonical and inside its 4096 bytes. -/
theorem State.busWrite_ram_wf (s : State) (a : Word) (v : Byte) (h : s.bus.ram.wfBelow 4096) :
    (s.busWrite a v).bus.ram.wfBelow 4096 := by
  rcases s.busWrite_cases a v with ⟨k, -, hk, e⟩ | ⟨-, e⟩ | ⟨-, e⟩ | ⟨-, e⟩ | ⟨k, -, -, e⟩ | ⟨k, -, -, e⟩ | ⟨-, e⟩ <;>
    rw [e]
  · exact Memory.wfBelow_write _ _ _ _ h hk
  all_goals exact h

/-- A bus write keeps the sprite-position table canonical and inside its 16 bytes. -/
theorem State.busWrite_spritePos_wf (s : State) (a : Word) (v : Byte) (h : s.bus.spritePos.wfBelow 16) :
    (s.busWrite a v).bus.spritePos.wfBelow 16 := by
  rcases s.busWrite_cases a v with ⟨k, -, -, e⟩ | ⟨-, e⟩ | ⟨-, e⟩ | ⟨-, e⟩ | ⟨k, -, -, e⟩ | ⟨k, -, hk, e⟩ | ⟨-, e⟩ <;>
    rw [e]
  case inr.inr.inr.inr.inr.inl => exact Memory.wfBelow_write _ _ _ _ h hk
  all_goals exact h

/-- Replacing a nibble above nibble 0 keeps nibble 0. -/
theorem setNibble_low (f : BitVec 20) (k : Nat) (d : BitVec 4) (hk : 1 ≤ k) :
    (setNibble f k d).extractLsb' 0 4 = f.extractLsb' 0 4 := by
  apply BitVec.eq_of_getLsbD_eq
  intro i hi
  have h1 : i < 4 * k := by omega
  simp [setNibble, BitVec.getLsbD_shiftLeft, h1, hi]
  omega

/-- An audio register write keeps the absent nibbles 0. -/
theorem Audio.write_nibbles (au : Audio) (off : Nat) (v : Byte) (h : au.NibblesAbsent) :
    (au.write off v).NibblesAbsent := by
  obtain ⟨h1, h2⟩ := h
  unfold Audio.write
  simp only
  split_ifs <;> refine ⟨?_, ?_⟩ <;> first | exact h1 | exact h2 | skip
  · exact (setNibble_low _ _ _ (by omega)).trans h1
  · exact (setNibble_low _ _ _ (by omega)).trans h2

/-- A bus write keeps the absent nibbles 0. -/
theorem State.busWrite_nibbles (s : State) (a : Word) (v : Byte) (h : s.audio.NibblesAbsent) :
    (s.busWrite a v).audio.NibblesAbsent := by
  rcases s.busWrite_cases a v with ⟨k, -, -, e⟩ | ⟨-, e⟩ | ⟨-, e⟩ | ⟨-, e⟩ | ⟨k, -, -, e⟩ | ⟨k, -, -, e⟩ | ⟨-, e⟩ <;>
    rw [e]
  case inr.inr.inr.inr.inl => exact Audio.write_nibbles _ _ _ h
  all_goals exact h

/-- A bus write leaves the phases, `mute` and the samples alone. -/
theorem State.busWrite_audio_rest (s : State) (a : Word) (v : Byte) :
    (s.busWrite a v).audio.mute = s.audio.mute ∧ (s.busWrite a v).audio.pushed = s.audio.pushed ∧
      (s.busWrite a v).audio.ch0.acc = s.audio.ch0.acc ∧ (s.busWrite a v).audio.ch1.acc = s.audio.ch1.acc ∧
      (s.busWrite a v).audio.ch2.acc = s.audio.ch2.acc := by
  rcases s.busWrite_cases a v with ⟨k, -, -, e⟩ | ⟨-, e⟩ | ⟨-, e⟩ | ⟨-, e⟩ | ⟨k, -, -, e⟩ | ⟨k, -, -, e⟩ | ⟨-, e⟩ <;>
    rw [e]
  case inr.inr.inr.inr.inl =>
    simp only [Audio.write]
    split_ifs <;> exact ⟨rfl, rfl, rfl, rfl, rfl⟩
  all_goals exact ⟨rfl, rfl, rfl, rfl, rfl⟩

/-- `MemWrite(addr, 2, v)` keeps RAM canonical. -/
theorem State.memWrite16_ram_wf (s : State) (a v : Word) (h : s.bus.ram.wfBelow 4096) :
    (s.memWrite16 a v).bus.ram.wfBelow 4096 := State.busWrite_ram_wf _ _ _ (State.busWrite_ram_wf _ _ _ h)

/-- `Push16(v)` keeps RAM canonical. -/
theorem State.push16_ram_wf (s : State) (v : Word) (h : s.bus.ram.wfBelow 4096) :
    (s.push16 v).bus.ram.wfBelow 4096 := State.busWrite_ram_wf _ _ _ (State.busWrite_ram_wf _ _ _ h)

/-- The ScreenBuffer after a compose. -/
theorem State.compose_screen (s : State) : s.compose.screen = Memory.tabulate screenBytes s.pictureByte := by
  simp only [State.compose]

/-- A compose writes a canonical ScreenBuffer. -/
theorem State.compose_screen_wf (s : State) : s.compose.screen.wfBelow 193536 := by
  rw [State.compose_screen]
  exact Memory.wfBelow_tabulate screenBytes s.pictureByte

/-- The debug hook keeps RAM canonical (R546). -/
theorem State.debugHook_ram_wf (s : State) (h : s.bus.ram.wfBelow 4096) : s.debugHook.bus.ram.wfBelow 4096 :=
  Memory.wfBelow_write _ _ _ _ h Config.cheatOffset.isLt

/-- Images of any contents are canonical and of their lengths: the type says so. -/
theorem Roms.wf (r : Roms) : r.WF :=
  ⟨r.prog.fits, r.tile.fits, r.sprite.fits, r.color.fits, r.palette.fits, r.wave1.fits, r.wave2.fits⟩

/-- Placing a byte from outside keeps RAM canonical (log 6); the images are so by type. -/
theorem State.placeByte_wf (s : State) (a : Word) (v : Byte) (h : s.bus.ram.wfBelow 4096) :
    (s.placeByte a v).roms.WF ∧ (s.placeByte a v).bus.ram.wfBelow 4096 := by
  refine ⟨Roms.wf _, ?_⟩
  unfold State.placeByte
  generalize ht : readTarget a = t
  cases t with
  | ram k => exact Memory.wfBelow_write _ _ _ _ h ((readTarget_ram a k).mp ht).2
  | _ => exact h

/-- After reset RAM lists nothing. -/
theorem reset_ram_wf : State.reset.bus.ram.wfBelow 4096 := by decide

/-- After reset the sprite-position table lists nothing. -/
theorem reset_spritePos_wf : State.reset.bus.spritePos.wfBelow 16 := by decide

/-- After reset the ScreenBuffer lists nothing. -/
theorem reset_screen_wf : State.reset.screen.wfBelow 193536 := by decide

end Sys2Proof.Machine
end

