-- ==== Sys2Proof/Laws/Flags.lean ====
section
/-! SUPPORT. The bits of bytes, words and of the flag register. -/

namespace Sys2Proof

@[simp] theorem hi_joinBytes (h l : Byte) : hi (joinBytes h l) = h := by
  have e : (joinBytes h l).toNat = h.toNat <<< 8 ||| l.toNat := BitVec.toNat_append h l
  have hl : l.toNat < 2 ^ 8 := l.isLt
  have hh : h.toNat < 2 ^ 8 := h.isLt
  have e2 : h.toNat <<< 8 ||| l.toNat = 2 ^ 8 * h.toNat + l.toNat := by
    rw [Nat.shiftLeft_eq, Nat.mul_comm, ← Nat.two_pow_add_eq_or_of_lt hl]
  apply BitVec.eq_of_toNat_eq
  rw [hi, BitVec.extractLsb'_toNat, e, e2, Nat.shiftRight_eq_div_pow]
  omega

@[simp] theorem lo_joinBytes (h l : Byte) : lo (joinBytes h l) = l := by
  have e : (joinBytes h l).toNat = h.toNat <<< 8 ||| l.toNat := BitVec.toNat_append h l
  have hl : l.toNat < 2 ^ 8 := l.isLt
  have e2 : h.toNat <<< 8 ||| l.toNat = 2 ^ 8 * h.toNat + l.toNat := by
    rw [Nat.shiftLeft_eq, Nat.mul_comm, ← Nat.two_pow_add_eq_or_of_lt hl]
  apply BitVec.eq_of_toNat_eq
  rw [lo, BitVec.extractLsb'_toNat, e, e2, Nat.shiftRight_eq_div_pow]
  omega

@[simp] theorem joinBytes_hi_lo (v : Word) : joinBytes (hi v) (lo v) = v := by
  have e : (joinBytes (hi v) (lo v)).toNat = (hi v).toNat <<< 8 ||| (lo v).toNat := BitVec.toNat_append _ _
  have hl : (lo v).toNat < 2 ^ 8 := (lo v).isLt
  have e2 : (hi v).toNat <<< 8 ||| (lo v).toNat = 2 ^ 8 * (hi v).toNat + (lo v).toNat := by
    rw [Nat.shiftLeft_eq, Nat.mul_comm, ← Nat.two_pow_add_eq_or_of_lt hl]
  have hv : v.toNat < 2 ^ 16 := v.isLt
  apply BitVec.eq_of_toNat_eq
  rw [e, e2]
  simp only [hi, lo, BitVec.extractLsb'_toNat, Nat.shiftRight_eq_div_pow]
  omega

theorem toNat_joinBytes (h l : Byte) : (joinBytes h l).toNat = 256 * h.toNat + l.toNat := by
  have e : (h ++ l).toNat = h.toNat <<< 8 ||| l.toNat := BitVec.toNat_append h l
  have hl : l.toNat < 2 ^ 8 := l.isLt
  have e2 : h.toNat <<< 8 ||| l.toNat = h.toNat * 2 ^ 8 + l.toNat := by
    rw [Nat.shiftLeft_eq, Nat.mul_comm, ← Nat.two_pow_add_eq_or_of_lt hl]
  show (h ++ l).toNat = _
  omega

namespace Machine

/-- The bits of a packed flag byte, bit 7 first (R26). -/
@[simp] theorem bitOf_packF (sf zf yf hf xf pf nf cf : Bool) :
    bitOf (packF sf zf yf hf xf pf nf cf) 7 = sf ∧ bitOf (packF sf zf yf hf xf pf nf cf) 6 = zf
      ∧ bitOf (packF sf zf yf hf xf pf nf cf) 5 = yf ∧ bitOf (packF sf zf yf hf xf pf nf cf) 4 = hf
      ∧ bitOf (packF sf zf yf hf xf pf nf cf) 3 = xf ∧ bitOf (packF sf zf yf hf xf pf nf cf) 2 = pf
      ∧ bitOf (packF sf zf yf hf xf pf nf cf) 1 = nf ∧ bitOf (packF sf zf yf hf xf pf nf cf) 0 = cf := by
  cases sf <;> cases zf <;> cases yf <;> cases hf <;> cases xf <;> cases pf <;> cases nf <;> cases cf <;> decide

@[simp] theorem packF_sf (c : Cpu) (sf zf yf hf xf pf nf cf : Bool) :
    Cpu.sf { c with f := packF sf zf yf hf xf pf nf cf } = sf := (bitOf_packF sf zf yf hf xf pf nf cf).1
@[simp] theorem packF_zf (c : Cpu) (sf zf yf hf xf pf nf cf : Bool) :
    Cpu.zf { c with f := packF sf zf yf hf xf pf nf cf } = zf := (bitOf_packF sf zf yf hf xf pf nf cf).2.1
@[simp] theorem packF_yf (c : Cpu) (sf zf yf hf xf pf nf cf : Bool) :
    Cpu.yf { c with f := packF sf zf yf hf xf pf nf cf } = yf := (bitOf_packF sf zf yf hf xf pf nf cf).2.2.1
@[simp] theorem packF_hf (c : Cpu) (sf zf yf hf xf pf nf cf : Bool) :
    Cpu.hf { c with f := packF sf zf yf hf xf pf nf cf } = hf := (bitOf_packF sf zf yf hf xf pf nf cf).2.2.2.1
@[simp] theorem packF_xf (c : Cpu) (sf zf yf hf xf pf nf cf : Bool) :
    Cpu.xf { c with f := packF sf zf yf hf xf pf nf cf } = xf := (bitOf_packF sf zf yf hf xf pf nf cf).2.2.2.2.1
@[simp] theorem packF_pf (c : Cpu) (sf zf yf hf xf pf nf cf : Bool) :
    Cpu.pf { c with f := packF sf zf yf hf xf pf nf cf } = pf := (bitOf_packF sf zf yf hf xf pf nf cf).2.2.2.2.2.1
@[simp] theorem packF_nf (c : Cpu) (sf zf yf hf xf pf nf cf : Bool) :
    Cpu.nf { c with f := packF sf zf yf hf xf pf nf cf } = nf := (bitOf_packF sf zf yf hf xf pf nf cf).2.2.2.2.2.2.1
@[simp] theorem packF_cf (c : Cpu) (sf zf yf hf xf pf nf cf : Bool) :
    Cpu.cf { c with f := packF sf zf yf hf xf pf nf cf } = cf := (bitOf_packF sf zf yf hf xf pf nf cf).2.2.2.2.2.2.2

/-- A flag byte is the packing of its own bits. -/
theorem packF_bits (v : Byte) :
    packF (bitOf v 7) (bitOf v 6) (bitOf v 5) (bitOf v 4) (bitOf v 3) (bitOf v 2) (bitOf v 1) (bitOf v 0) = v := by
  revert v
  decide

/-- The register `F` is the packing of its eight flags. -/
theorem Cpu.packF_flags (c : Cpu) : packF c.sf c.zf c.yf c.hf c.xf c.pf c.nf c.cf = c.f := packF_bits c.f

end Machine

end Sys2Proof
end

