-- ==== Sys2Proof/Laws/Frames.lean ====
section
/-! SUPPORT. How the frames of Safety.lean come about, and each update of the CPU as such a frame. -/

namespace Sys2Proof.Machine

/-! ### The frames of the machine -/

/-- Whatever differs only in the CPU and in the cycles reads the same memory. -/
theorem CpuOnly.intro {s t : State} {n : Nat} (h : t = { s with cpu := t.cpu, cycles := n }) : CpuOnly s t n :=
  ⟨h, fun a => State.busRead_congr s t a (by rw [h]) (by rw [h]) (by rw [h])⟩

/-- A new CPU and a cost are such a change. -/
theorem CpuOnly.of_cpu (s : State) (c : Cpu) (n : Nat) : CpuOnly s { s with cpu := c, cycles := n } n :=
  CpuOnly.intro rfl

theorem State.busRead_busWrite_readAfter (s : State) (a b : Word) (v : Byte) :
    (s.busWrite a v).busRead b = readAfter a v b (s.busRead b) := s.busRead_busWrite a b v

/-- What differs from one bus write only in the CPU and in the cycles is one stored byte. -/
theorem StoresByte.intro {s t : State} {a : Word} {v : Byte} {n : Nat}
    (h : t = { s.busWrite a v with cpu := t.cpu, cycles := n }) : StoresByte s t a v n := by
  refine ⟨h, fun b => ?_⟩
  rw [← State.busRead_busWrite_readAfter]
  exact State.busRead_congr _ t b (by rw [h]) (by rw [h]) (by rw [h])

theorem StoresByte.of_cpu (s : State) (a : Word) (v : Byte) (c : Cpu) (n : Nat) :
    StoresByte s { s.busWrite a v with cpu := c, cycles := n } a v n := StoresByte.intro rfl

/-- What differs from two bus writes only in the CPU and in the cycles is two stored bytes. -/
theorem StoresTwo.intro {s t : State} {a1 a2 : Word} {v1 v2 : Byte} {n : Nat}
    (h : t = { (s.busWrite a1 v1).busWrite a2 v2 with cpu := t.cpu, cycles := n }) : StoresTwo s t a1 v1 a2 v2 n := by
  refine ⟨h, fun b => ?_⟩
  rw [← State.busRead_busWrite_readAfter, ← State.busRead_busWrite_readAfter]
  exact State.busRead_congr _ t b (by rw [h]) (by rw [h]) (by rw [h])

/-! ### The frames of the CPU -/

theorem Cpu.onlyReg_setReg (c : Cpu) (r : Reg8) (v : Byte) : c.OnlyReg (c.setReg r v) r v := by
  cases r <;> refine ⟨rfl, fun r' => ?_⟩ <;> cases r' <;> rfl

theorem Cpu.onlyRegAndFlags_setReg (c : Cpu) (r : Reg8) (v f : Byte) :
    c.OnlyRegAndFlags { c.setReg r v with f := f } r v := by
  cases r <;> refine ⟨rfl, fun r' => ?_⟩ <;> cases r' <;> rfl

theorem Cpu.onlyPair_setRp (c : Cpu) (q : Pair) (v : Word) : c.OnlyPair (c.setRp q v) q v := by
  cases q <;> refine ⟨rfl, fun q' => ?_⟩ <;> cases q' <;> simp [Cpu.rp, Cpu.setRp]

theorem Cpu.onlyIndex_setIi (c : Cpu) (i : Index) (v : Word) : c.OnlyIndex (c.setIi i v) i v := by
  cases i <;> refine ⟨rfl, fun j => ?_⟩ <;> cases j <;> rfl

theorem Cpu.onlyIndexAndFlags_setIi (c : Cpu) (i : Index) (v : Word) (f : Byte) :
    c.OnlyIndexAndFlags { c.setIi i v with f := f } i v := by
  cases i <;> refine ⟨rfl, fun j => ?_⟩ <;> cases j <;> rfl

/-- Reading a pair back. -/
@[simp] theorem Cpu.rp_setRp_same (c : Cpu) (q : Pair) (v : Word) : (c.setRp q v).rp q = v := by
  cases q <;> simp [Cpu.rp, Cpu.setRp]

theorem Cpu.rp_setRp_other (c : Cpu) (q q' : Pair) (v : Word) (h : q' ≠ q) : (c.setRp q v).rp q' = c.rp q' := by
  cases q <;> cases q' <;> first | rfl | exact absurd rfl h

/-! ### Flags -/

/-- The parity of R13 counts the 1 bits. -/
theorem parity_eq_evenOnes (v : Byte) : parity v = evenOnes v := by
  revert v
  decide

/-- A flag byte built with `SZYX(v)` shows `v`, and its other bits are those given (R14). -/
theorem shows_szyxF (c : Cpu) (v : Byte) (hf pf nf cf : Bool) :
    let d : Cpu := { c with f := szyxF v hf pf nf cf }
    d.Shows v ∧ d.hf = hf ∧ d.pf = pf ∧ d.nf = nf ∧ d.cf = cf := by
  simp only [Cpu.Shows, szyxF]
  exact ⟨⟨packF_sf .., packF_zf .., packF_yf .., packF_xf ..⟩, packF_hf .., packF_pf .., packF_nf .., packF_cf ..⟩

end Sys2Proof.Machine
end

