-- ==== Sys2Proof/Laws/State.lean ====
section
/-! SUPPORT. One lemma per field per update of the state, true by `rfl`, so that no proof unfolds a record update. -/

namespace Sys2Proof.Machine

/-! ### Register updates of the CPU: the fields they leave alone -/

@[simp] theorem Cpu.setReg_f (c : Cpu) (r : Reg8) (v : Byte) : (c.setReg r v).f = c.f := by cases r <;> rfl
@[simp] theorem Cpu.setReg_a2 (c : Cpu) (r : Reg8) (v : Byte) : (c.setReg r v).a2 = c.a2 := by cases r <;> rfl
@[simp] theorem Cpu.setReg_f2 (c : Cpu) (r : Reg8) (v : Byte) : (c.setReg r v).f2 = c.f2 := by cases r <;> rfl
@[simp] theorem Cpu.setReg_b2 (c : Cpu) (r : Reg8) (v : Byte) : (c.setReg r v).b2 = c.b2 := by cases r <;> rfl
@[simp] theorem Cpu.setReg_c2 (c : Cpu) (r : Reg8) (v : Byte) : (c.setReg r v).c2 = c.c2 := by cases r <;> rfl
@[simp] theorem Cpu.setReg_d2 (c : Cpu) (r : Reg8) (v : Byte) : (c.setReg r v).d2 = c.d2 := by cases r <;> rfl
@[simp] theorem Cpu.setReg_e2 (c : Cpu) (r : Reg8) (v : Byte) : (c.setReg r v).e2 = c.e2 := by cases r <;> rfl
@[simp] theorem Cpu.setReg_h2 (c : Cpu) (r : Reg8) (v : Byte) : (c.setReg r v).h2 = c.h2 := by cases r <;> rfl
@[simp] theorem Cpu.setReg_l2 (c : Cpu) (r : Reg8) (v : Byte) : (c.setReg r v).l2 = c.l2 := by cases r <;> rfl
@[simp] theorem Cpu.setReg_ix (c : Cpu) (r : Reg8) (v : Byte) : (c.setReg r v).ix = c.ix := by cases r <;> rfl
@[simp] theorem Cpu.setReg_iy (c : Cpu) (r : Reg8) (v : Byte) : (c.setReg r v).iy = c.iy := by cases r <;> rfl
@[simp] theorem Cpu.setReg_sp (c : Cpu) (r : Reg8) (v : Byte) : (c.setReg r v).sp = c.sp := by cases r <;> rfl
@[simp] theorem Cpu.setReg_pc (c : Cpu) (r : Reg8) (v : Byte) : (c.setReg r v).pc = c.pc := by cases r <;> rfl
@[simp] theorem Cpu.setReg_i (c : Cpu) (r : Reg8) (v : Byte) : (c.setReg r v).i = c.i := by cases r <;> rfl
@[simp] theorem Cpu.setReg_r (c : Cpu) (r : Reg8) (v : Byte) : (c.setReg r v).r = c.r := by cases r <;> rfl
@[simp] theorem Cpu.setReg_iff1 (c : Cpu) (r : Reg8) (v : Byte) : (c.setReg r v).iff1 = c.iff1 := by cases r <;> rfl
@[simp] theorem Cpu.setReg_iff2 (c : Cpu) (r : Reg8) (v : Byte) : (c.setReg r v).iff2 = c.iff2 := by cases r <;> rfl
@[simp] theorem Cpu.setReg_im (c : Cpu) (r : Reg8) (v : Byte) : (c.setReg r v).im = c.im := by cases r <;> rfl
@[simp] theorem Cpu.setReg_halted (c : Cpu) (r : Reg8) (v : Byte) : (c.setReg r v).halted = c.halted := by cases r <;> rfl
@[simp] theorem Cpu.setReg_eiDelay (c : Cpu) (r : Reg8) (v : Byte) : (c.setReg r v).eiDelay = c.eiDelay := by cases r <;> rfl
@[simp] theorem Cpu.setRp_f (c : Cpu) (q : Pair) (v : Word) : (c.setRp q v).f = c.f := by cases q <;> rfl
@[simp] theorem Cpu.setRp_a2 (c : Cpu) (q : Pair) (v : Word) : (c.setRp q v).a2 = c.a2 := by cases q <;> rfl
@[simp] theorem Cpu.setRp_f2 (c : Cpu) (q : Pair) (v : Word) : (c.setRp q v).f2 = c.f2 := by cases q <;> rfl
@[simp] theorem Cpu.setRp_b2 (c : Cpu) (q : Pair) (v : Word) : (c.setRp q v).b2 = c.b2 := by cases q <;> rfl
@[simp] theorem Cpu.setRp_c2 (c : Cpu) (q : Pair) (v : Word) : (c.setRp q v).c2 = c.c2 := by cases q <;> rfl
@[simp] theorem Cpu.setRp_d2 (c : Cpu) (q : Pair) (v : Word) : (c.setRp q v).d2 = c.d2 := by cases q <;> rfl
@[simp] theorem Cpu.setRp_e2 (c : Cpu) (q : Pair) (v : Word) : (c.setRp q v).e2 = c.e2 := by cases q <;> rfl
@[simp] theorem Cpu.setRp_h2 (c : Cpu) (q : Pair) (v : Word) : (c.setRp q v).h2 = c.h2 := by cases q <;> rfl
@[simp] theorem Cpu.setRp_l2 (c : Cpu) (q : Pair) (v : Word) : (c.setRp q v).l2 = c.l2 := by cases q <;> rfl
@[simp] theorem Cpu.setRp_ix (c : Cpu) (q : Pair) (v : Word) : (c.setRp q v).ix = c.ix := by cases q <;> rfl
@[simp] theorem Cpu.setRp_iy (c : Cpu) (q : Pair) (v : Word) : (c.setRp q v).iy = c.iy := by cases q <;> rfl
@[simp] theorem Cpu.setRp_pc (c : Cpu) (q : Pair) (v : Word) : (c.setRp q v).pc = c.pc := by cases q <;> rfl
@[simp] theorem Cpu.setRp_i (c : Cpu) (q : Pair) (v : Word) : (c.setRp q v).i = c.i := by cases q <;> rfl
@[simp] theorem Cpu.setRp_r (c : Cpu) (q : Pair) (v : Word) : (c.setRp q v).r = c.r := by cases q <;> rfl
@[simp] theorem Cpu.setRp_iff1 (c : Cpu) (q : Pair) (v : Word) : (c.setRp q v).iff1 = c.iff1 := by cases q <;> rfl
@[simp] theorem Cpu.setRp_iff2 (c : Cpu) (q : Pair) (v : Word) : (c.setRp q v).iff2 = c.iff2 := by cases q <;> rfl
@[simp] theorem Cpu.setRp_im (c : Cpu) (q : Pair) (v : Word) : (c.setRp q v).im = c.im := by cases q <;> rfl
@[simp] theorem Cpu.setRp_halted (c : Cpu) (q : Pair) (v : Word) : (c.setRp q v).halted = c.halted := by cases q <;> rfl
@[simp] theorem Cpu.setRp_eiDelay (c : Cpu) (q : Pair) (v : Word) : (c.setRp q v).eiDelay = c.eiDelay := by cases q <;> rfl
@[simp] theorem Cpu.setRp_a (c : Cpu) (q : Pair) (v : Word) : (c.setRp q v).a = c.a := by cases q <;> rfl
@[simp] theorem Cpu.setRp2_a2 (c : Cpu) (q : StackPair) (v : Word) : (c.setRp2 q v).a2 = c.a2 := by cases q <;> rfl
@[simp] theorem Cpu.setRp2_f2 (c : Cpu) (q : StackPair) (v : Word) : (c.setRp2 q v).f2 = c.f2 := by cases q <;> rfl
@[simp] theorem Cpu.setRp2_b2 (c : Cpu) (q : StackPair) (v : Word) : (c.setRp2 q v).b2 = c.b2 := by cases q <;> rfl
@[simp] theorem Cpu.setRp2_c2 (c : Cpu) (q : StackPair) (v : Word) : (c.setRp2 q v).c2 = c.c2 := by cases q <;> rfl
@[simp] theorem Cpu.setRp2_d2 (c : Cpu) (q : StackPair) (v : Word) : (c.setRp2 q v).d2 = c.d2 := by cases q <;> rfl
@[simp] theorem Cpu.setRp2_e2 (c : Cpu) (q : StackPair) (v : Word) : (c.setRp2 q v).e2 = c.e2 := by cases q <;> rfl
@[simp] theorem Cpu.setRp2_h2 (c : Cpu) (q : StackPair) (v : Word) : (c.setRp2 q v).h2 = c.h2 := by cases q <;> rfl
@[simp] theorem Cpu.setRp2_l2 (c : Cpu) (q : StackPair) (v : Word) : (c.setRp2 q v).l2 = c.l2 := by cases q <;> rfl
@[simp] theorem Cpu.setRp2_ix (c : Cpu) (q : StackPair) (v : Word) : (c.setRp2 q v).ix = c.ix := by cases q <;> rfl
@[simp] theorem Cpu.setRp2_iy (c : Cpu) (q : StackPair) (v : Word) : (c.setRp2 q v).iy = c.iy := by cases q <;> rfl
@[simp] theorem Cpu.setRp2_sp (c : Cpu) (q : StackPair) (v : Word) : (c.setRp2 q v).sp = c.sp := by cases q <;> rfl
@[simp] theorem Cpu.setRp2_pc (c : Cpu) (q : StackPair) (v : Word) : (c.setRp2 q v).pc = c.pc := by cases q <;> rfl
@[simp] theorem Cpu.setRp2_i (c : Cpu) (q : StackPair) (v : Word) : (c.setRp2 q v).i = c.i := by cases q <;> rfl
@[simp] theorem Cpu.setRp2_r (c : Cpu) (q : StackPair) (v : Word) : (c.setRp2 q v).r = c.r := by cases q <;> rfl
@[simp] theorem Cpu.setRp2_iff1 (c : Cpu) (q : StackPair) (v : Word) : (c.setRp2 q v).iff1 = c.iff1 := by cases q <;> rfl
@[simp] theorem Cpu.setRp2_iff2 (c : Cpu) (q : StackPair) (v : Word) : (c.setRp2 q v).iff2 = c.iff2 := by cases q <;> rfl
@[simp] theorem Cpu.setRp2_im (c : Cpu) (q : StackPair) (v : Word) : (c.setRp2 q v).im = c.im := by cases q <;> rfl
@[simp] theorem Cpu.setRp2_halted (c : Cpu) (q : StackPair) (v : Word) : (c.setRp2 q v).halted = c.halted := by cases q <;> rfl
@[simp] theorem Cpu.setRp2_eiDelay (c : Cpu) (q : StackPair) (v : Word) : (c.setRp2 q v).eiDelay = c.eiDelay := by cases q <;> rfl
@[simp] theorem Cpu.setIi_a (c : Cpu) (i : Index) (v : Word) : (c.setIi i v).a = c.a := by cases i <;> rfl
@[simp] theorem Cpu.setIi_f (c : Cpu) (i : Index) (v : Word) : (c.setIi i v).f = c.f := by cases i <;> rfl
@[simp] theorem Cpu.setIi_b (c : Cpu) (i : Index) (v : Word) : (c.setIi i v).b = c.b := by cases i <;> rfl
@[simp] theorem Cpu.setIi_c (c : Cpu) (i : Index) (v : Word) : (c.setIi i v).c = c.c := by cases i <;> rfl
@[simp] theorem Cpu.setIi_d (c : Cpu) (i : Index) (v : Word) : (c.setIi i v).d = c.d := by cases i <;> rfl
@[simp] theorem Cpu.setIi_e (c : Cpu) (i : Index) (v : Word) : (c.setIi i v).e = c.e := by cases i <;> rfl
@[simp] theorem Cpu.setIi_h (c : Cpu) (i : Index) (v : Word) : (c.setIi i v).h = c.h := by cases i <;> rfl
@[simp] theorem Cpu.setIi_l (c : Cpu) (i : Index) (v : Word) : (c.setIi i v).l = c.l := by cases i <;> rfl
@[simp] theorem Cpu.setIi_a2 (c : Cpu) (i : Index) (v : Word) : (c.setIi i v).a2 = c.a2 := by cases i <;> rfl
@[simp] theorem Cpu.setIi_f2 (c : Cpu) (i : Index) (v : Word) : (c.setIi i v).f2 = c.f2 := by cases i <;> rfl
@[simp] theorem Cpu.setIi_b2 (c : Cpu) (i : Index) (v : Word) : (c.setIi i v).b2 = c.b2 := by cases i <;> rfl
@[simp] theorem Cpu.setIi_c2 (c : Cpu) (i : Index) (v : Word) : (c.setIi i v).c2 = c.c2 := by cases i <;> rfl
@[simp] theorem Cpu.setIi_d2 (c : Cpu) (i : Index) (v : Word) : (c.setIi i v).d2 = c.d2 := by cases i <;> rfl
@[simp] theorem Cpu.setIi_e2 (c : Cpu) (i : Index) (v : Word) : (c.setIi i v).e2 = c.e2 := by cases i <;> rfl
@[simp] theorem Cpu.setIi_h2 (c : Cpu) (i : Index) (v : Word) : (c.setIi i v).h2 = c.h2 := by cases i <;> rfl
@[simp] theorem Cpu.setIi_l2 (c : Cpu) (i : Index) (v : Word) : (c.setIi i v).l2 = c.l2 := by cases i <;> rfl
@[simp] theorem Cpu.setIi_sp (c : Cpu) (i : Index) (v : Word) : (c.setIi i v).sp = c.sp := by cases i <;> rfl
@[simp] theorem Cpu.setIi_pc (c : Cpu) (i : Index) (v : Word) : (c.setIi i v).pc = c.pc := by cases i <;> rfl
@[simp] theorem Cpu.setIi_i (c : Cpu) (i : Index) (v : Word) : (c.setIi i v).i = c.i := by cases i <;> rfl
@[simp] theorem Cpu.setIi_r (c : Cpu) (i : Index) (v : Word) : (c.setIi i v).r = c.r := by cases i <;> rfl
@[simp] theorem Cpu.setIi_iff1 (c : Cpu) (i : Index) (v : Word) : (c.setIi i v).iff1 = c.iff1 := by cases i <;> rfl
@[simp] theorem Cpu.setIi_iff2 (c : Cpu) (i : Index) (v : Word) : (c.setIi i v).iff2 = c.iff2 := by cases i <;> rfl
@[simp] theorem Cpu.setIi_im (c : Cpu) (i : Index) (v : Word) : (c.setIi i v).im = c.im := by cases i <;> rfl
@[simp] theorem Cpu.setIi_halted (c : Cpu) (i : Index) (v : Word) : (c.setIi i v).halted = c.halted := by cases i <;> rfl
@[simp] theorem Cpu.setIi_eiDelay (c : Cpu) (i : Index) (v : Word) : (c.setIi i v).eiDelay = c.eiDelay := by cases i <;> rfl
@[simp] theorem Cpu.swapAF_a (c : Cpu) : c.swapAF.a = c.a2 := rfl
@[simp] theorem Cpu.swapAF_f (c : Cpu) : c.swapAF.f = c.f2 := rfl
@[simp] theorem Cpu.swapAF_b (c : Cpu) : c.swapAF.b = c.b := rfl
@[simp] theorem Cpu.swapAF_c (c : Cpu) : c.swapAF.c = c.c := rfl
@[simp] theorem Cpu.swapAF_d (c : Cpu) : c.swapAF.d = c.d := rfl
@[simp] theorem Cpu.swapAF_e (c : Cpu) : c.swapAF.e = c.e := rfl
@[simp] theorem Cpu.swapAF_h (c : Cpu) : c.swapAF.h = c.h := rfl
@[simp] theorem Cpu.swapAF_l (c : Cpu) : c.swapAF.l = c.l := rfl
@[simp] theorem Cpu.swapAF_a2 (c : Cpu) : c.swapAF.a2 = c.a := rfl
@[simp] theorem Cpu.swapAF_f2 (c : Cpu) : c.swapAF.f2 = c.f := rfl
@[simp] theorem Cpu.swapAF_b2 (c : Cpu) : c.swapAF.b2 = c.b2 := rfl
@[simp] theorem Cpu.swapAF_c2 (c : Cpu) : c.swapAF.c2 = c.c2 := rfl
@[simp] theorem Cpu.swapAF_d2 (c : Cpu) : c.swapAF.d2 = c.d2 := rfl
@[simp] theorem Cpu.swapAF_e2 (c : Cpu) : c.swapAF.e2 = c.e2 := rfl
@[simp] theorem Cpu.swapAF_h2 (c : Cpu) : c.swapAF.h2 = c.h2 := rfl
@[simp] theorem Cpu.swapAF_l2 (c : Cpu) : c.swapAF.l2 = c.l2 := rfl
@[simp] theorem Cpu.swapAF_ix (c : Cpu) : c.swapAF.ix = c.ix := rfl
@[simp] theorem Cpu.swapAF_iy (c : Cpu) : c.swapAF.iy = c.iy := rfl
@[simp] theorem Cpu.swapAF_sp (c : Cpu) : c.swapAF.sp = c.sp := rfl
@[simp] theorem Cpu.swapAF_pc (c : Cpu) : c.swapAF.pc = c.pc := rfl
@[simp] theorem Cpu.swapAF_i (c : Cpu) : c.swapAF.i = c.i := rfl
@[simp] theorem Cpu.swapAF_r (c : Cpu) : c.swapAF.r = c.r := rfl
@[simp] theorem Cpu.swapAF_iff1 (c : Cpu) : c.swapAF.iff1 = c.iff1 := rfl
@[simp] theorem Cpu.swapAF_iff2 (c : Cpu) : c.swapAF.iff2 = c.iff2 := rfl
@[simp] theorem Cpu.swapAF_im (c : Cpu) : c.swapAF.im = c.im := rfl
@[simp] theorem Cpu.swapAF_halted (c : Cpu) : c.swapAF.halted = c.halted := rfl
@[simp] theorem Cpu.swapAF_eiDelay (c : Cpu) : c.swapAF.eiDelay = c.eiDelay := rfl
@[simp] theorem Cpu.swapMain_a (c : Cpu) : c.swapMain.a = c.a := rfl
@[simp] theorem Cpu.swapMain_f (c : Cpu) : c.swapMain.f = c.f := rfl
@[simp] theorem Cpu.swapMain_b (c : Cpu) : c.swapMain.b = c.b2 := rfl
@[simp] theorem Cpu.swapMain_c (c : Cpu) : c.swapMain.c = c.c2 := rfl
@[simp] theorem Cpu.swapMain_d (c : Cpu) : c.swapMain.d = c.d2 := rfl
@[simp] theorem Cpu.swapMain_e (c : Cpu) : c.swapMain.e = c.e2 := rfl
@[simp] theorem Cpu.swapMain_h (c : Cpu) : c.swapMain.h = c.h2 := rfl
@[simp] theorem Cpu.swapMain_l (c : Cpu) : c.swapMain.l = c.l2 := rfl
@[simp] theorem Cpu.swapMain_a2 (c : Cpu) : c.swapMain.a2 = c.a2 := rfl
@[simp] theorem Cpu.swapMain_f2 (c : Cpu) : c.swapMain.f2 = c.f2 := rfl
@[simp] theorem Cpu.swapMain_b2 (c : Cpu) : c.swapMain.b2 = c.b := rfl
@[simp] theorem Cpu.swapMain_c2 (c : Cpu) : c.swapMain.c2 = c.c := rfl
@[simp] theorem Cpu.swapMain_d2 (c : Cpu) : c.swapMain.d2 = c.d := rfl
@[simp] theorem Cpu.swapMain_e2 (c : Cpu) : c.swapMain.e2 = c.e := rfl
@[simp] theorem Cpu.swapMain_h2 (c : Cpu) : c.swapMain.h2 = c.h := rfl
@[simp] theorem Cpu.swapMain_l2 (c : Cpu) : c.swapMain.l2 = c.l := rfl
@[simp] theorem Cpu.swapMain_ix (c : Cpu) : c.swapMain.ix = c.ix := rfl
@[simp] theorem Cpu.swapMain_iy (c : Cpu) : c.swapMain.iy = c.iy := rfl
@[simp] theorem Cpu.swapMain_sp (c : Cpu) : c.swapMain.sp = c.sp := rfl
@[simp] theorem Cpu.swapMain_pc (c : Cpu) : c.swapMain.pc = c.pc := rfl
@[simp] theorem Cpu.swapMain_i (c : Cpu) : c.swapMain.i = c.i := rfl
@[simp] theorem Cpu.swapMain_r (c : Cpu) : c.swapMain.r = c.r := rfl
@[simp] theorem Cpu.swapMain_iff1 (c : Cpu) : c.swapMain.iff1 = c.iff1 := rfl
@[simp] theorem Cpu.swapMain_iff2 (c : Cpu) : c.swapMain.iff2 = c.iff2 := rfl
@[simp] theorem Cpu.swapMain_im (c : Cpu) : c.swapMain.im = c.im := rfl
@[simp] theorem Cpu.swapMain_halted (c : Cpu) : c.swapMain.halted = c.halted := rfl
@[simp] theorem Cpu.swapMain_eiDelay (c : Cpu) : c.swapMain.eiDelay = c.eiDelay := rfl

/-! ### Updates of the machine: every field -/

@[simp] theorem State.setReg_cpu (s : State) (r : Reg8) (v : Byte) : (s.setReg r v).cpu = s.cpu.setReg r v := rfl
@[simp] theorem State.setReg_bus (s : State) (r : Reg8) (v : Byte) : (s.setReg r v).bus = s.bus := rfl
@[simp] theorem State.setReg_screen (s : State) (r : Reg8) (v : Byte) : (s.setReg r v).screen = s.screen := rfl
@[simp] theorem State.setReg_audio (s : State) (r : Reg8) (v : Byte) : (s.setReg r v).audio = s.audio := rfl
@[simp] theorem State.setReg_sched (s : State) (r : Reg8) (v : Byte) : (s.setReg r v).sched = s.sched := rfl
@[simp] theorem State.setReg_roms (s : State) (r : Reg8) (v : Byte) : (s.setReg r v).roms = s.roms := rfl
@[simp] theorem State.setReg_draws (s : State) (r : Reg8) (v : Byte) : (s.setReg r v).draws = s.draws := rfl
@[simp] theorem State.setReg_cycles (s : State) (r : Reg8) (v : Byte) : (s.setReg r v).cycles = s.cycles := rfl
@[simp] theorem State.setReg_table (s : State) (r : Reg8) (v : Byte) : (s.setReg r v).table = s.table := rfl
@[simp] theorem State.setRp_cpu (s : State) (q : Pair) (v : Word) : (s.setRp q v).cpu = s.cpu.setRp q v := rfl
@[simp] theorem State.setRp_bus (s : State) (q : Pair) (v : Word) : (s.setRp q v).bus = s.bus := rfl
@[simp] theorem State.setRp_screen (s : State) (q : Pair) (v : Word) : (s.setRp q v).screen = s.screen := rfl
@[simp] theorem State.setRp_audio (s : State) (q : Pair) (v : Word) : (s.setRp q v).audio = s.audio := rfl
@[simp] theorem State.setRp_sched (s : State) (q : Pair) (v : Word) : (s.setRp q v).sched = s.sched := rfl
@[simp] theorem State.setRp_roms (s : State) (q : Pair) (v : Word) : (s.setRp q v).roms = s.roms := rfl
@[simp] theorem State.setRp_draws (s : State) (q : Pair) (v : Word) : (s.setRp q v).draws = s.draws := rfl
@[simp] theorem State.setRp_cycles (s : State) (q : Pair) (v : Word) : (s.setRp q v).cycles = s.cycles := rfl
@[simp] theorem State.setRp_table (s : State) (q : Pair) (v : Word) : (s.setRp q v).table = s.table := rfl
@[simp] theorem State.setRp2_cpu (s : State) (q : StackPair) (v : Word) : (s.setRp2 q v).cpu = s.cpu.setRp2 q v := rfl
@[simp] theorem State.setRp2_bus (s : State) (q : StackPair) (v : Word) : (s.setRp2 q v).bus = s.bus := rfl
@[simp] theorem State.setRp2_screen (s : State) (q : StackPair) (v : Word) : (s.setRp2 q v).screen = s.screen := rfl
@[simp] theorem State.setRp2_audio (s : State) (q : StackPair) (v : Word) : (s.setRp2 q v).audio = s.audio := rfl
@[simp] theorem State.setRp2_sched (s : State) (q : StackPair) (v : Word) : (s.setRp2 q v).sched = s.sched := rfl
@[simp] theorem State.setRp2_roms (s : State) (q : StackPair) (v : Word) : (s.setRp2 q v).roms = s.roms := rfl
@[simp] theorem State.setRp2_draws (s : State) (q : StackPair) (v : Word) : (s.setRp2 q v).draws = s.draws := rfl
@[simp] theorem State.setRp2_cycles (s : State) (q : StackPair) (v : Word) : (s.setRp2 q v).cycles = s.cycles := rfl
@[simp] theorem State.setRp2_table (s : State) (q : StackPair) (v : Word) : (s.setRp2 q v).table = s.table := rfl
@[simp] theorem State.setIi_cpu (s : State) (i : Index) (v : Word) : (s.setIi i v).cpu = s.cpu.setIi i v := rfl
@[simp] theorem State.setIi_bus (s : State) (i : Index) (v : Word) : (s.setIi i v).bus = s.bus := rfl
@[simp] theorem State.setIi_screen (s : State) (i : Index) (v : Word) : (s.setIi i v).screen = s.screen := rfl
@[simp] theorem State.setIi_audio (s : State) (i : Index) (v : Word) : (s.setIi i v).audio = s.audio := rfl
@[simp] theorem State.setIi_sched (s : State) (i : Index) (v : Word) : (s.setIi i v).sched = s.sched := rfl
@[simp] theorem State.setIi_roms (s : State) (i : Index) (v : Word) : (s.setIi i v).roms = s.roms := rfl
@[simp] theorem State.setIi_draws (s : State) (i : Index) (v : Word) : (s.setIi i v).draws = s.draws := rfl
@[simp] theorem State.setIi_cycles (s : State) (i : Index) (v : Word) : (s.setIi i v).cycles = s.cycles := rfl
@[simp] theorem State.setIi_table (s : State) (i : Index) (v : Word) : (s.setIi i v).table = s.table := rfl
@[simp] theorem State.swapAF_cpu (s : State) : s.swapAF.cpu = s.cpu.swapAF := rfl
@[simp] theorem State.swapAF_bus (s : State) : s.swapAF.bus = s.bus := rfl
@[simp] theorem State.swapAF_screen (s : State) : s.swapAF.screen = s.screen := rfl
@[simp] theorem State.swapAF_audio (s : State) : s.swapAF.audio = s.audio := rfl
@[simp] theorem State.swapAF_sched (s : State) : s.swapAF.sched = s.sched := rfl
@[simp] theorem State.swapAF_roms (s : State) : s.swapAF.roms = s.roms := rfl
@[simp] theorem State.swapAF_draws (s : State) : s.swapAF.draws = s.draws := rfl
@[simp] theorem State.swapAF_cycles (s : State) : s.swapAF.cycles = s.cycles := rfl
@[simp] theorem State.swapAF_table (s : State) : s.swapAF.table = s.table := rfl
@[simp] theorem State.swapMain_cpu (s : State) : s.swapMain.cpu = s.cpu.swapMain := rfl
@[simp] theorem State.swapMain_bus (s : State) : s.swapMain.bus = s.bus := rfl
@[simp] theorem State.swapMain_screen (s : State) : s.swapMain.screen = s.screen := rfl
@[simp] theorem State.swapMain_audio (s : State) : s.swapMain.audio = s.audio := rfl
@[simp] theorem State.swapMain_sched (s : State) : s.swapMain.sched = s.sched := rfl
@[simp] theorem State.swapMain_roms (s : State) : s.swapMain.roms = s.roms := rfl
@[simp] theorem State.swapMain_draws (s : State) : s.swapMain.draws = s.draws := rfl
@[simp] theorem State.swapMain_cycles (s : State) : s.swapMain.cycles = s.cycles := rfl
@[simp] theorem State.swapMain_table (s : State) : s.swapMain.table = s.table := rfl
@[simp] theorem State.setF_cpu_a (s : State) (v : Byte) : (s.setF v).cpu.a = s.cpu.a := rfl
@[simp] theorem State.setF_cpu_f (s : State) (v : Byte) : (s.setF v).cpu.f = v := rfl
@[simp] theorem State.setF_cpu_b (s : State) (v : Byte) : (s.setF v).cpu.b = s.cpu.b := rfl
@[simp] theorem State.setF_cpu_c (s : State) (v : Byte) : (s.setF v).cpu.c = s.cpu.c := rfl
@[simp] theorem State.setF_cpu_d (s : State) (v : Byte) : (s.setF v).cpu.d = s.cpu.d := rfl
@[simp] theorem State.setF_cpu_e (s : State) (v : Byte) : (s.setF v).cpu.e = s.cpu.e := rfl
@[simp] theorem State.setF_cpu_h (s : State) (v : Byte) : (s.setF v).cpu.h = s.cpu.h := rfl
@[simp] theorem State.setF_cpu_l (s : State) (v : Byte) : (s.setF v).cpu.l = s.cpu.l := rfl
@[simp] theorem State.setF_cpu_a2 (s : State) (v : Byte) : (s.setF v).cpu.a2 = s.cpu.a2 := rfl
@[simp] theorem State.setF_cpu_f2 (s : State) (v : Byte) : (s.setF v).cpu.f2 = s.cpu.f2 := rfl
@[simp] theorem State.setF_cpu_b2 (s : State) (v : Byte) : (s.setF v).cpu.b2 = s.cpu.b2 := rfl
@[simp] theorem State.setF_cpu_c2 (s : State) (v : Byte) : (s.setF v).cpu.c2 = s.cpu.c2 := rfl
@[simp] theorem State.setF_cpu_d2 (s : State) (v : Byte) : (s.setF v).cpu.d2 = s.cpu.d2 := rfl
@[simp] theorem State.setF_cpu_e2 (s : State) (v : Byte) : (s.setF v).cpu.e2 = s.cpu.e2 := rfl
@[simp] theorem State.setF_cpu_h2 (s : State) (v : Byte) : (s.setF v).cpu.h2 = s.cpu.h2 := rfl
@[simp] theorem State.setF_cpu_l2 (s : State) (v : Byte) : (s.setF v).cpu.l2 = s.cpu.l2 := rfl
@[simp] theorem State.setF_cpu_ix (s : State) (v : Byte) : (s.setF v).cpu.ix = s.cpu.ix := rfl
@[simp] theorem State.setF_cpu_iy (s : State) (v : Byte) : (s.setF v).cpu.iy = s.cpu.iy := rfl
@[simp] theorem State.setF_cpu_sp (s : State) (v : Byte) : (s.setF v).cpu.sp = s.cpu.sp := rfl
@[simp] theorem State.setF_cpu_pc (s : State) (v : Byte) : (s.setF v).cpu.pc = s.cpu.pc := rfl
@[simp] theorem State.setF_cpu_i (s : State) (v : Byte) : (s.setF v).cpu.i = s.cpu.i := rfl
@[simp] theorem State.setF_cpu_r (s : State) (v : Byte) : (s.setF v).cpu.r = s.cpu.r := rfl
@[simp] theorem State.setF_cpu_iff1 (s : State) (v : Byte) : (s.setF v).cpu.iff1 = s.cpu.iff1 := rfl
@[simp] theorem State.setF_cpu_iff2 (s : State) (v : Byte) : (s.setF v).cpu.iff2 = s.cpu.iff2 := rfl
@[simp] theorem State.setF_cpu_im (s : State) (v : Byte) : (s.setF v).cpu.im = s.cpu.im := rfl
@[simp] theorem State.setF_cpu_halted (s : State) (v : Byte) : (s.setF v).cpu.halted = s.cpu.halted := rfl
@[simp] theorem State.setF_cpu_eiDelay (s : State) (v : Byte) : (s.setF v).cpu.eiDelay = s.cpu.eiDelay := rfl
@[simp] theorem State.setF_bus (s : State) (v : Byte) : (s.setF v).bus = s.bus := rfl
@[simp] theorem State.setF_screen (s : State) (v : Byte) : (s.setF v).screen = s.screen := rfl
@[simp] theorem State.setF_audio (s : State) (v : Byte) : (s.setF v).audio = s.audio := rfl
@[simp] theorem State.setF_sched (s : State) (v : Byte) : (s.setF v).sched = s.sched := rfl
@[simp] theorem State.setF_roms (s : State) (v : Byte) : (s.setF v).roms = s.roms := rfl
@[simp] theorem State.setF_draws (s : State) (v : Byte) : (s.setF v).draws = s.draws := rfl
@[simp] theorem State.setF_cycles (s : State) (v : Byte) : (s.setF v).cycles = s.cycles := rfl
@[simp] theorem State.setF_table (s : State) (v : Byte) : (s.setF v).table = s.table := rfl
@[simp] theorem State.setPc_cpu_a (s : State) (v : Word) : (s.setPc v).cpu.a = s.cpu.a := rfl
@[simp] theorem State.setPc_cpu_f (s : State) (v : Word) : (s.setPc v).cpu.f = s.cpu.f := rfl
@[simp] theorem State.setPc_cpu_b (s : State) (v : Word) : (s.setPc v).cpu.b = s.cpu.b := rfl
@[simp] theorem State.setPc_cpu_c (s : State) (v : Word) : (s.setPc v).cpu.c = s.cpu.c := rfl
@[simp] theorem State.setPc_cpu_d (s : State) (v : Word) : (s.setPc v).cpu.d = s.cpu.d := rfl
@[simp] theorem State.setPc_cpu_e (s : State) (v : Word) : (s.setPc v).cpu.e = s.cpu.e := rfl
@[simp] theorem State.setPc_cpu_h (s : State) (v : Word) : (s.setPc v).cpu.h = s.cpu.h := rfl
@[simp] theorem State.setPc_cpu_l (s : State) (v : Word) : (s.setPc v).cpu.l = s.cpu.l := rfl
@[simp] theorem State.setPc_cpu_a2 (s : State) (v : Word) : (s.setPc v).cpu.a2 = s.cpu.a2 := rfl
@[simp] theorem State.setPc_cpu_f2 (s : State) (v : Word) : (s.setPc v).cpu.f2 = s.cpu.f2 := rfl
@[simp] theorem State.setPc_cpu_b2 (s : State) (v : Word) : (s.setPc v).cpu.b2 = s.cpu.b2 := rfl
@[simp] theorem State.setPc_cpu_c2 (s : State) (v : Word) : (s.setPc v).cpu.c2 = s.cpu.c2 := rfl
@[simp] theorem State.setPc_cpu_d2 (s : State) (v : Word) : (s.setPc v).cpu.d2 = s.cpu.d2 := rfl
@[simp] theorem State.setPc_cpu_e2 (s : State) (v : Word) : (s.setPc v).cpu.e2 = s.cpu.e2 := rfl
@[simp] theorem State.setPc_cpu_h2 (s : State) (v : Word) : (s.setPc v).cpu.h2 = s.cpu.h2 := rfl
@[simp] theorem State.setPc_cpu_l2 (s : State) (v : Word) : (s.setPc v).cpu.l2 = s.cpu.l2 := rfl
@[simp] theorem State.setPc_cpu_ix (s : State) (v : Word) : (s.setPc v).cpu.ix = s.cpu.ix := rfl
@[simp] theorem State.setPc_cpu_iy (s : State) (v : Word) : (s.setPc v).cpu.iy = s.cpu.iy := rfl
@[simp] theorem State.setPc_cpu_sp (s : State) (v : Word) : (s.setPc v).cpu.sp = s.cpu.sp := rfl
@[simp] theorem State.setPc_cpu_pc (s : State) (v : Word) : (s.setPc v).cpu.pc = v := rfl
@[simp] theorem State.setPc_cpu_i (s : State) (v : Word) : (s.setPc v).cpu.i = s.cpu.i := rfl
@[simp] theorem State.setPc_cpu_r (s : State) (v : Word) : (s.setPc v).cpu.r = s.cpu.r := rfl
@[simp] theorem State.setPc_cpu_iff1 (s : State) (v : Word) : (s.setPc v).cpu.iff1 = s.cpu.iff1 := rfl
@[simp] theorem State.setPc_cpu_iff2 (s : State) (v : Word) : (s.setPc v).cpu.iff2 = s.cpu.iff2 := rfl
@[simp] theorem State.setPc_cpu_im (s : State) (v : Word) : (s.setPc v).cpu.im = s.cpu.im := rfl
@[simp] theorem State.setPc_cpu_halted (s : State) (v : Word) : (s.setPc v).cpu.halted = s.cpu.halted := rfl
@[simp] theorem State.setPc_cpu_eiDelay (s : State) (v : Word) : (s.setPc v).cpu.eiDelay = s.cpu.eiDelay := rfl
@[simp] theorem State.setPc_bus (s : State) (v : Word) : (s.setPc v).bus = s.bus := rfl
@[simp] theorem State.setPc_screen (s : State) (v : Word) : (s.setPc v).screen = s.screen := rfl
@[simp] theorem State.setPc_audio (s : State) (v : Word) : (s.setPc v).audio = s.audio := rfl
@[simp] theorem State.setPc_sched (s : State) (v : Word) : (s.setPc v).sched = s.sched := rfl
@[simp] theorem State.setPc_roms (s : State) (v : Word) : (s.setPc v).roms = s.roms := rfl
@[simp] theorem State.setPc_draws (s : State) (v : Word) : (s.setPc v).draws = s.draws := rfl
@[simp] theorem State.setPc_cycles (s : State) (v : Word) : (s.setPc v).cycles = s.cycles := rfl
@[simp] theorem State.setPc_table (s : State) (v : Word) : (s.setPc v).table = s.table := rfl
@[simp] theorem State.setSp_cpu_a (s : State) (v : Word) : (s.setSp v).cpu.a = s.cpu.a := rfl
@[simp] theorem State.setSp_cpu_f (s : State) (v : Word) : (s.setSp v).cpu.f = s.cpu.f := rfl
@[simp] theorem State.setSp_cpu_b (s : State) (v : Word) : (s.setSp v).cpu.b = s.cpu.b := rfl
@[simp] theorem State.setSp_cpu_c (s : State) (v : Word) : (s.setSp v).cpu.c = s.cpu.c := rfl
@[simp] theorem State.setSp_cpu_d (s : State) (v : Word) : (s.setSp v).cpu.d = s.cpu.d := rfl
@[simp] theorem State.setSp_cpu_e (s : State) (v : Word) : (s.setSp v).cpu.e = s.cpu.e := rfl
@[simp] theorem State.setSp_cpu_h (s : State) (v : Word) : (s.setSp v).cpu.h = s.cpu.h := rfl
@[simp] theorem State.setSp_cpu_l (s : State) (v : Word) : (s.setSp v).cpu.l = s.cpu.l := rfl
@[simp] theorem State.setSp_cpu_a2 (s : State) (v : Word) : (s.setSp v).cpu.a2 = s.cpu.a2 := rfl
@[simp] theorem State.setSp_cpu_f2 (s : State) (v : Word) : (s.setSp v).cpu.f2 = s.cpu.f2 := rfl
@[simp] theorem State.setSp_cpu_b2 (s : State) (v : Word) : (s.setSp v).cpu.b2 = s.cpu.b2 := rfl
@[simp] theorem State.setSp_cpu_c2 (s : State) (v : Word) : (s.setSp v).cpu.c2 = s.cpu.c2 := rfl
@[simp] theorem State.setSp_cpu_d2 (s : State) (v : Word) : (s.setSp v).cpu.d2 = s.cpu.d2 := rfl
@[simp] theorem State.setSp_cpu_e2 (s : State) (v : Word) : (s.setSp v).cpu.e2 = s.cpu.e2 := rfl
@[simp] theorem State.setSp_cpu_h2 (s : State) (v : Word) : (s.setSp v).cpu.h2 = s.cpu.h2 := rfl
@[simp] theorem State.setSp_cpu_l2 (s : State) (v : Word) : (s.setSp v).cpu.l2 = s.cpu.l2 := rfl
@[simp] theorem State.setSp_cpu_ix (s : State) (v : Word) : (s.setSp v).cpu.ix = s.cpu.ix := rfl
@[simp] theorem State.setSp_cpu_iy (s : State) (v : Word) : (s.setSp v).cpu.iy = s.cpu.iy := rfl
@[simp] theorem State.setSp_cpu_sp (s : State) (v : Word) : (s.setSp v).cpu.sp = v := rfl
@[simp] theorem State.setSp_cpu_pc (s : State) (v : Word) : (s.setSp v).cpu.pc = s.cpu.pc := rfl
@[simp] theorem State.setSp_cpu_i (s : State) (v : Word) : (s.setSp v).cpu.i = s.cpu.i := rfl
@[simp] theorem State.setSp_cpu_r (s : State) (v : Word) : (s.setSp v).cpu.r = s.cpu.r := rfl
@[simp] theorem State.setSp_cpu_iff1 (s : State) (v : Word) : (s.setSp v).cpu.iff1 = s.cpu.iff1 := rfl
@[simp] theorem State.setSp_cpu_iff2 (s : State) (v : Word) : (s.setSp v).cpu.iff2 = s.cpu.iff2 := rfl
@[simp] theorem State.setSp_cpu_im (s : State) (v : Word) : (s.setSp v).cpu.im = s.cpu.im := rfl
@[simp] theorem State.setSp_cpu_halted (s : State) (v : Word) : (s.setSp v).cpu.halted = s.cpu.halted := rfl
@[simp] theorem State.setSp_cpu_eiDelay (s : State) (v : Word) : (s.setSp v).cpu.eiDelay = s.cpu.eiDelay := rfl
@[simp] theorem State.setSp_bus (s : State) (v : Word) : (s.setSp v).bus = s.bus := rfl
@[simp] theorem State.setSp_screen (s : State) (v : Word) : (s.setSp v).screen = s.screen := rfl
@[simp] theorem State.setSp_audio (s : State) (v : Word) : (s.setSp v).audio = s.audio := rfl
@[simp] theorem State.setSp_sched (s : State) (v : Word) : (s.setSp v).sched = s.sched := rfl
@[simp] theorem State.setSp_roms (s : State) (v : Word) : (s.setSp v).roms = s.roms := rfl
@[simp] theorem State.setSp_draws (s : State) (v : Word) : (s.setSp v).draws = s.draws := rfl
@[simp] theorem State.setSp_cycles (s : State) (v : Word) : (s.setSp v).cycles = s.cycles := rfl
@[simp] theorem State.setSp_table (s : State) (v : Word) : (s.setSp v).table = s.table := rfl
@[simp] theorem State.setI_cpu_a (s : State) (v : Byte) : (s.setI v).cpu.a = s.cpu.a := rfl
@[simp] theorem State.setI_cpu_f (s : State) (v : Byte) : (s.setI v).cpu.f = s.cpu.f := rfl
@[simp] theorem State.setI_cpu_b (s : State) (v : Byte) : (s.setI v).cpu.b = s.cpu.b := rfl
@[simp] theorem State.setI_cpu_c (s : State) (v : Byte) : (s.setI v).cpu.c = s.cpu.c := rfl
@[simp] theorem State.setI_cpu_d (s : State) (v : Byte) : (s.setI v).cpu.d = s.cpu.d := rfl
@[simp] theorem State.setI_cpu_e (s : State) (v : Byte) : (s.setI v).cpu.e = s.cpu.e := rfl
@[simp] theorem State.setI_cpu_h (s : State) (v : Byte) : (s.setI v).cpu.h = s.cpu.h := rfl
@[simp] theorem State.setI_cpu_l (s : State) (v : Byte) : (s.setI v).cpu.l = s.cpu.l := rfl
@[simp] theorem State.setI_cpu_a2 (s : State) (v : Byte) : (s.setI v).cpu.a2 = s.cpu.a2 := rfl
@[simp] theorem State.setI_cpu_f2 (s : State) (v : Byte) : (s.setI v).cpu.f2 = s.cpu.f2 := rfl
@[simp] theorem State.setI_cpu_b2 (s : State) (v : Byte) : (s.setI v).cpu.b2 = s.cpu.b2 := rfl
@[simp] theorem State.setI_cpu_c2 (s : State) (v : Byte) : (s.setI v).cpu.c2 = s.cpu.c2 := rfl
@[simp] theorem State.setI_cpu_d2 (s : State) (v : Byte) : (s.setI v).cpu.d2 = s.cpu.d2 := rfl
@[simp] theorem State.setI_cpu_e2 (s : State) (v : Byte) : (s.setI v).cpu.e2 = s.cpu.e2 := rfl
@[simp] theorem State.setI_cpu_h2 (s : State) (v : Byte) : (s.setI v).cpu.h2 = s.cpu.h2 := rfl
@[simp] theorem State.setI_cpu_l2 (s : State) (v : Byte) : (s.setI v).cpu.l2 = s.cpu.l2 := rfl
@[simp] theorem State.setI_cpu_ix (s : State) (v : Byte) : (s.setI v).cpu.ix = s.cpu.ix := rfl
@[simp] theorem State.setI_cpu_iy (s : State) (v : Byte) : (s.setI v).cpu.iy = s.cpu.iy := rfl
@[simp] theorem State.setI_cpu_sp (s : State) (v : Byte) : (s.setI v).cpu.sp = s.cpu.sp := rfl
@[simp] theorem State.setI_cpu_pc (s : State) (v : Byte) : (s.setI v).cpu.pc = s.cpu.pc := rfl
@[simp] theorem State.setI_cpu_i (s : State) (v : Byte) : (s.setI v).cpu.i = v := rfl
@[simp] theorem State.setI_cpu_r (s : State) (v : Byte) : (s.setI v).cpu.r = s.cpu.r := rfl
@[simp] theorem State.setI_cpu_iff1 (s : State) (v : Byte) : (s.setI v).cpu.iff1 = s.cpu.iff1 := rfl
@[simp] theorem State.setI_cpu_iff2 (s : State) (v : Byte) : (s.setI v).cpu.iff2 = s.cpu.iff2 := rfl
@[simp] theorem State.setI_cpu_im (s : State) (v : Byte) : (s.setI v).cpu.im = s.cpu.im := rfl
@[simp] theorem State.setI_cpu_halted (s : State) (v : Byte) : (s.setI v).cpu.halted = s.cpu.halted := rfl
@[simp] theorem State.setI_cpu_eiDelay (s : State) (v : Byte) : (s.setI v).cpu.eiDelay = s.cpu.eiDelay := rfl
@[simp] theorem State.setI_bus (s : State) (v : Byte) : (s.setI v).bus = s.bus := rfl
@[simp] theorem State.setI_screen (s : State) (v : Byte) : (s.setI v).screen = s.screen := rfl
@[simp] theorem State.setI_audio (s : State) (v : Byte) : (s.setI v).audio = s.audio := rfl
@[simp] theorem State.setI_sched (s : State) (v : Byte) : (s.setI v).sched = s.sched := rfl
@[simp] theorem State.setI_roms (s : State) (v : Byte) : (s.setI v).roms = s.roms := rfl
@[simp] theorem State.setI_draws (s : State) (v : Byte) : (s.setI v).draws = s.draws := rfl
@[simp] theorem State.setI_cycles (s : State) (v : Byte) : (s.setI v).cycles = s.cycles := rfl
@[simp] theorem State.setI_table (s : State) (v : Byte) : (s.setI v).table = s.table := rfl
@[simp] theorem State.setR_cpu_a (s : State) (v : Byte) : (s.setR v).cpu.a = s.cpu.a := rfl
@[simp] theorem State.setR_cpu_f (s : State) (v : Byte) : (s.setR v).cpu.f = s.cpu.f := rfl
@[simp] theorem State.setR_cpu_b (s : State) (v : Byte) : (s.setR v).cpu.b = s.cpu.b := rfl
@[simp] theorem State.setR_cpu_c (s : State) (v : Byte) : (s.setR v).cpu.c = s.cpu.c := rfl
@[simp] theorem State.setR_cpu_d (s : State) (v : Byte) : (s.setR v).cpu.d = s.cpu.d := rfl
@[simp] theorem State.setR_cpu_e (s : State) (v : Byte) : (s.setR v).cpu.e = s.cpu.e := rfl
@[simp] theorem State.setR_cpu_h (s : State) (v : Byte) : (s.setR v).cpu.h = s.cpu.h := rfl
@[simp] theorem State.setR_cpu_l (s : State) (v : Byte) : (s.setR v).cpu.l = s.cpu.l := rfl
@[simp] theorem State.setR_cpu_a2 (s : State) (v : Byte) : (s.setR v).cpu.a2 = s.cpu.a2 := rfl
@[simp] theorem State.setR_cpu_f2 (s : State) (v : Byte) : (s.setR v).cpu.f2 = s.cpu.f2 := rfl
@[simp] theorem State.setR_cpu_b2 (s : State) (v : Byte) : (s.setR v).cpu.b2 = s.cpu.b2 := rfl
@[simp] theorem State.setR_cpu_c2 (s : State) (v : Byte) : (s.setR v).cpu.c2 = s.cpu.c2 := rfl
@[simp] theorem State.setR_cpu_d2 (s : State) (v : Byte) : (s.setR v).cpu.d2 = s.cpu.d2 := rfl
@[simp] theorem State.setR_cpu_e2 (s : State) (v : Byte) : (s.setR v).cpu.e2 = s.cpu.e2 := rfl
@[simp] theorem State.setR_cpu_h2 (s : State) (v : Byte) : (s.setR v).cpu.h2 = s.cpu.h2 := rfl
@[simp] theorem State.setR_cpu_l2 (s : State) (v : Byte) : (s.setR v).cpu.l2 = s.cpu.l2 := rfl
@[simp] theorem State.setR_cpu_ix (s : State) (v : Byte) : (s.setR v).cpu.ix = s.cpu.ix := rfl
@[simp] theorem State.setR_cpu_iy (s : State) (v : Byte) : (s.setR v).cpu.iy = s.cpu.iy := rfl
@[simp] theorem State.setR_cpu_sp (s : State) (v : Byte) : (s.setR v).cpu.sp = s.cpu.sp := rfl
@[simp] theorem State.setR_cpu_pc (s : State) (v : Byte) : (s.setR v).cpu.pc = s.cpu.pc := rfl
@[simp] theorem State.setR_cpu_i (s : State) (v : Byte) : (s.setR v).cpu.i = s.cpu.i := rfl
@[simp] theorem State.setR_cpu_r (s : State) (v : Byte) : (s.setR v).cpu.r = v := rfl
@[simp] theorem State.setR_cpu_iff1 (s : State) (v : Byte) : (s.setR v).cpu.iff1 = s.cpu.iff1 := rfl
@[simp] theorem State.setR_cpu_iff2 (s : State) (v : Byte) : (s.setR v).cpu.iff2 = s.cpu.iff2 := rfl
@[simp] theorem State.setR_cpu_im (s : State) (v : Byte) : (s.setR v).cpu.im = s.cpu.im := rfl
@[simp] theorem State.setR_cpu_halted (s : State) (v : Byte) : (s.setR v).cpu.halted = s.cpu.halted := rfl
@[simp] theorem State.setR_cpu_eiDelay (s : State) (v : Byte) : (s.setR v).cpu.eiDelay = s.cpu.eiDelay := rfl
@[simp] theorem State.setR_bus (s : State) (v : Byte) : (s.setR v).bus = s.bus := rfl
@[simp] theorem State.setR_screen (s : State) (v : Byte) : (s.setR v).screen = s.screen := rfl
@[simp] theorem State.setR_audio (s : State) (v : Byte) : (s.setR v).audio = s.audio := rfl
@[simp] theorem State.setR_sched (s : State) (v : Byte) : (s.setR v).sched = s.sched := rfl
@[simp] theorem State.setR_roms (s : State) (v : Byte) : (s.setR v).roms = s.roms := rfl
@[simp] theorem State.setR_draws (s : State) (v : Byte) : (s.setR v).draws = s.draws := rfl
@[simp] theorem State.setR_cycles (s : State) (v : Byte) : (s.setR v).cycles = s.cycles := rfl
@[simp] theorem State.setR_table (s : State) (v : Byte) : (s.setR v).table = s.table := rfl
@[simp] theorem State.setIff_cpu_a (s : State) (v w : Bool) : (s.setIff v w).cpu.a = s.cpu.a := rfl
@[simp] theorem State.setIff_cpu_f (s : State) (v w : Bool) : (s.setIff v w).cpu.f = s.cpu.f := rfl
@[simp] theorem State.setIff_cpu_b (s : State) (v w : Bool) : (s.setIff v w).cpu.b = s.cpu.b := rfl
@[simp] theorem State.setIff_cpu_c (s : State) (v w : Bool) : (s.setIff v w).cpu.c = s.cpu.c := rfl
@[simp] theorem State.setIff_cpu_d (s : State) (v w : Bool) : (s.setIff v w).cpu.d = s.cpu.d := rfl
@[simp] theorem State.setIff_cpu_e (s : State) (v w : Bool) : (s.setIff v w).cpu.e = s.cpu.e := rfl
@[simp] theorem State.setIff_cpu_h (s : State) (v w : Bool) : (s.setIff v w).cpu.h = s.cpu.h := rfl
@[simp] theorem State.setIff_cpu_l (s : State) (v w : Bool) : (s.setIff v w).cpu.l = s.cpu.l := rfl
@[simp] theorem State.setIff_cpu_a2 (s : State) (v w : Bool) : (s.setIff v w).cpu.a2 = s.cpu.a2 := rfl
@[simp] theorem State.setIff_cpu_f2 (s : State) (v w : Bool) : (s.setIff v w).cpu.f2 = s.cpu.f2 := rfl
@[simp] theorem State.setIff_cpu_b2 (s : State) (v w : Bool) : (s.setIff v w).cpu.b2 = s.cpu.b2 := rfl
@[simp] theorem State.setIff_cpu_c2 (s : State) (v w : Bool) : (s.setIff v w).cpu.c2 = s.cpu.c2 := rfl
@[simp] theorem State.setIff_cpu_d2 (s : State) (v w : Bool) : (s.setIff v w).cpu.d2 = s.cpu.d2 := rfl
@[simp] theorem State.setIff_cpu_e2 (s : State) (v w : Bool) : (s.setIff v w).cpu.e2 = s.cpu.e2 := rfl
@[simp] theorem State.setIff_cpu_h2 (s : State) (v w : Bool) : (s.setIff v w).cpu.h2 = s.cpu.h2 := rfl
@[simp] theorem State.setIff_cpu_l2 (s : State) (v w : Bool) : (s.setIff v w).cpu.l2 = s.cpu.l2 := rfl
@[simp] theorem State.setIff_cpu_ix (s : State) (v w : Bool) : (s.setIff v w).cpu.ix = s.cpu.ix := rfl
@[simp] theorem State.setIff_cpu_iy (s : State) (v w : Bool) : (s.setIff v w).cpu.iy = s.cpu.iy := rfl
@[simp] theorem State.setIff_cpu_sp (s : State) (v w : Bool) : (s.setIff v w).cpu.sp = s.cpu.sp := rfl
@[simp] theorem State.setIff_cpu_pc (s : State) (v w : Bool) : (s.setIff v w).cpu.pc = s.cpu.pc := rfl
@[simp] theorem State.setIff_cpu_i (s : State) (v w : Bool) : (s.setIff v w).cpu.i = s.cpu.i := rfl
@[simp] theorem State.setIff_cpu_r (s : State) (v w : Bool) : (s.setIff v w).cpu.r = s.cpu.r := rfl
@[simp] theorem State.setIff_cpu_iff1 (s : State) (v w : Bool) : (s.setIff v w).cpu.iff1 = v := rfl
@[simp] theorem State.setIff_cpu_iff2 (s : State) (v w : Bool) : (s.setIff v w).cpu.iff2 = w := rfl
@[simp] theorem State.setIff_cpu_im (s : State) (v w : Bool) : (s.setIff v w).cpu.im = s.cpu.im := rfl
@[simp] theorem State.setIff_cpu_halted (s : State) (v w : Bool) : (s.setIff v w).cpu.halted = s.cpu.halted := rfl
@[simp] theorem State.setIff_cpu_eiDelay (s : State) (v w : Bool) : (s.setIff v w).cpu.eiDelay = s.cpu.eiDelay := rfl
@[simp] theorem State.setIff_bus (s : State) (v w : Bool) : (s.setIff v w).bus = s.bus := rfl
@[simp] theorem State.setIff_screen (s : State) (v w : Bool) : (s.setIff v w).screen = s.screen := rfl
@[simp] theorem State.setIff_audio (s : State) (v w : Bool) : (s.setIff v w).audio = s.audio := rfl
@[simp] theorem State.setIff_sched (s : State) (v w : Bool) : (s.setIff v w).sched = s.sched := rfl
@[simp] theorem State.setIff_roms (s : State) (v w : Bool) : (s.setIff v w).roms = s.roms := rfl
@[simp] theorem State.setIff_draws (s : State) (v w : Bool) : (s.setIff v w).draws = s.draws := rfl
@[simp] theorem State.setIff_cycles (s : State) (v w : Bool) : (s.setIff v w).cycles = s.cycles := rfl
@[simp] theorem State.setIff_table (s : State) (v w : Bool) : (s.setIff v w).table = s.table := rfl
@[simp] theorem State.setIm_cpu_a (s : State) (m : IntMode) : (s.setIm m).cpu.a = s.cpu.a := rfl
@[simp] theorem State.setIm_cpu_f (s : State) (m : IntMode) : (s.setIm m).cpu.f = s.cpu.f := rfl
@[simp] theorem State.setIm_cpu_b (s : State) (m : IntMode) : (s.setIm m).cpu.b = s.cpu.b := rfl
@[simp] theorem State.setIm_cpu_c (s : State) (m : IntMode) : (s.setIm m).cpu.c = s.cpu.c := rfl
@[simp] theorem State.setIm_cpu_d (s : State) (m : IntMode) : (s.setIm m).cpu.d = s.cpu.d := rfl
@[simp] theorem State.setIm_cpu_e (s : State) (m : IntMode) : (s.setIm m).cpu.e = s.cpu.e := rfl
@[simp] theorem State.setIm_cpu_h (s : State) (m : IntMode) : (s.setIm m).cpu.h = s.cpu.h := rfl
@[simp] theorem State.setIm_cpu_l (s : State) (m : IntMode) : (s.setIm m).cpu.l = s.cpu.l := rfl
@[simp] theorem State.setIm_cpu_a2 (s : State) (m : IntMode) : (s.setIm m).cpu.a2 = s.cpu.a2 := rfl
@[simp] theorem State.setIm_cpu_f2 (s : State) (m : IntMode) : (s.setIm m).cpu.f2 = s.cpu.f2 := rfl
@[simp] theorem State.setIm_cpu_b2 (s : State) (m : IntMode) : (s.setIm m).cpu.b2 = s.cpu.b2 := rfl
@[simp] theorem State.setIm_cpu_c2 (s : State) (m : IntMode) : (s.setIm m).cpu.c2 = s.cpu.c2 := rfl
@[simp] theorem State.setIm_cpu_d2 (s : State) (m : IntMode) : (s.setIm m).cpu.d2 = s.cpu.d2 := rfl
@[simp] theorem State.setIm_cpu_e2 (s : State) (m : IntMode) : (s.setIm m).cpu.e2 = s.cpu.e2 := rfl
@[simp] theorem State.setIm_cpu_h2 (s : State) (m : IntMode) : (s.setIm m).cpu.h2 = s.cpu.h2 := rfl
@[simp] theorem State.setIm_cpu_l2 (s : State) (m : IntMode) : (s.setIm m).cpu.l2 = s.cpu.l2 := rfl
@[simp] theorem State.setIm_cpu_ix (s : State) (m : IntMode) : (s.setIm m).cpu.ix = s.cpu.ix := rfl
@[simp] theorem State.setIm_cpu_iy (s : State) (m : IntMode) : (s.setIm m).cpu.iy = s.cpu.iy := rfl
@[simp] theorem State.setIm_cpu_sp (s : State) (m : IntMode) : (s.setIm m).cpu.sp = s.cpu.sp := rfl
@[simp] theorem State.setIm_cpu_pc (s : State) (m : IntMode) : (s.setIm m).cpu.pc = s.cpu.pc := rfl
@[simp] theorem State.setIm_cpu_i (s : State) (m : IntMode) : (s.setIm m).cpu.i = s.cpu.i := rfl
@[simp] theorem State.setIm_cpu_r (s : State) (m : IntMode) : (s.setIm m).cpu.r = s.cpu.r := rfl
@[simp] theorem State.setIm_cpu_iff1 (s : State) (m : IntMode) : (s.setIm m).cpu.iff1 = s.cpu.iff1 := rfl
@[simp] theorem State.setIm_cpu_iff2 (s : State) (m : IntMode) : (s.setIm m).cpu.iff2 = s.cpu.iff2 := rfl
@[simp] theorem State.setIm_cpu_im (s : State) (m : IntMode) : (s.setIm m).cpu.im = m := rfl
@[simp] theorem State.setIm_cpu_halted (s : State) (m : IntMode) : (s.setIm m).cpu.halted = s.cpu.halted := rfl
@[simp] theorem State.setIm_cpu_eiDelay (s : State) (m : IntMode) : (s.setIm m).cpu.eiDelay = s.cpu.eiDelay := rfl
@[simp] theorem State.setIm_bus (s : State) (m : IntMode) : (s.setIm m).bus = s.bus := rfl
@[simp] theorem State.setIm_screen (s : State) (m : IntMode) : (s.setIm m).screen = s.screen := rfl
@[simp] theorem State.setIm_audio (s : State) (m : IntMode) : (s.setIm m).audio = s.audio := rfl
@[simp] theorem State.setIm_sched (s : State) (m : IntMode) : (s.setIm m).sched = s.sched := rfl
@[simp] theorem State.setIm_roms (s : State) (m : IntMode) : (s.setIm m).roms = s.roms := rfl
@[simp] theorem State.setIm_draws (s : State) (m : IntMode) : (s.setIm m).draws = s.draws := rfl
@[simp] theorem State.setIm_cycles (s : State) (m : IntMode) : (s.setIm m).cycles = s.cycles := rfl
@[simp] theorem State.setIm_table (s : State) (m : IntMode) : (s.setIm m).table = s.table := rfl
@[simp] theorem State.setHalted_cpu_a (s : State) (v : Bool) : (s.setHalted v).cpu.a = s.cpu.a := rfl
@[simp] theorem State.setHalted_cpu_f (s : State) (v : Bool) : (s.setHalted v).cpu.f = s.cpu.f := rfl
@[simp] theorem State.setHalted_cpu_b (s : State) (v : Bool) : (s.setHalted v).cpu.b = s.cpu.b := rfl
@[simp] theorem State.setHalted_cpu_c (s : State) (v : Bool) : (s.setHalted v).cpu.c = s.cpu.c := rfl
@[simp] theorem State.setHalted_cpu_d (s : State) (v : Bool) : (s.setHalted v).cpu.d = s.cpu.d := rfl
@[simp] theorem State.setHalted_cpu_e (s : State) (v : Bool) : (s.setHalted v).cpu.e = s.cpu.e := rfl
@[simp] theorem State.setHalted_cpu_h (s : State) (v : Bool) : (s.setHalted v).cpu.h = s.cpu.h := rfl
@[simp] theorem State.setHalted_cpu_l (s : State) (v : Bool) : (s.setHalted v).cpu.l = s.cpu.l := rfl
@[simp] theorem State.setHalted_cpu_a2 (s : State) (v : Bool) : (s.setHalted v).cpu.a2 = s.cpu.a2 := rfl
@[simp] theorem State.setHalted_cpu_f2 (s : State) (v : Bool) : (s.setHalted v).cpu.f2 = s.cpu.f2 := rfl
@[simp] theorem State.setHalted_cpu_b2 (s : State) (v : Bool) : (s.setHalted v).cpu.b2 = s.cpu.b2 := rfl
@[simp] theorem State.setHalted_cpu_c2 (s : State) (v : Bool) : (s.setHalted v).cpu.c2 = s.cpu.c2 := rfl
@[simp] theorem State.setHalted_cpu_d2 (s : State) (v : Bool) : (s.setHalted v).cpu.d2 = s.cpu.d2 := rfl
@[simp] theorem State.setHalted_cpu_e2 (s : State) (v : Bool) : (s.setHalted v).cpu.e2 = s.cpu.e2 := rfl
@[simp] theorem State.setHalted_cpu_h2 (s : State) (v : Bool) : (s.setHalted v).cpu.h2 = s.cpu.h2 := rfl
@[simp] theorem State.setHalted_cpu_l2 (s : State) (v : Bool) : (s.setHalted v).cpu.l2 = s.cpu.l2 := rfl
@[simp] theorem State.setHalted_cpu_ix (s : State) (v : Bool) : (s.setHalted v).cpu.ix = s.cpu.ix := rfl
@[simp] theorem State.setHalted_cpu_iy (s : State) (v : Bool) : (s.setHalted v).cpu.iy = s.cpu.iy := rfl
@[simp] theorem State.setHalted_cpu_sp (s : State) (v : Bool) : (s.setHalted v).cpu.sp = s.cpu.sp := rfl
@[simp] theorem State.setHalted_cpu_pc (s : State) (v : Bool) : (s.setHalted v).cpu.pc = s.cpu.pc := rfl
@[simp] theorem State.setHalted_cpu_i (s : State) (v : Bool) : (s.setHalted v).cpu.i = s.cpu.i := rfl
@[simp] theorem State.setHalted_cpu_r (s : State) (v : Bool) : (s.setHalted v).cpu.r = s.cpu.r := rfl
@[simp] theorem State.setHalted_cpu_iff1 (s : State) (v : Bool) : (s.setHalted v).cpu.iff1 = s.cpu.iff1 := rfl
@[simp] theorem State.setHalted_cpu_iff2 (s : State) (v : Bool) : (s.setHalted v).cpu.iff2 = s.cpu.iff2 := rfl
@[simp] theorem State.setHalted_cpu_im (s : State) (v : Bool) : (s.setHalted v).cpu.im = s.cpu.im := rfl
@[simp] theorem State.setHalted_cpu_halted (s : State) (v : Bool) : (s.setHalted v).cpu.halted = v := rfl
@[simp] theorem State.setHalted_cpu_eiDelay (s : State) (v : Bool) : (s.setHalted v).cpu.eiDelay = s.cpu.eiDelay := rfl
@[simp] theorem State.setHalted_bus (s : State) (v : Bool) : (s.setHalted v).bus = s.bus := rfl
@[simp] theorem State.setHalted_screen (s : State) (v : Bool) : (s.setHalted v).screen = s.screen := rfl
@[simp] theorem State.setHalted_audio (s : State) (v : Bool) : (s.setHalted v).audio = s.audio := rfl
@[simp] theorem State.setHalted_sched (s : State) (v : Bool) : (s.setHalted v).sched = s.sched := rfl
@[simp] theorem State.setHalted_roms (s : State) (v : Bool) : (s.setHalted v).roms = s.roms := rfl
@[simp] theorem State.setHalted_draws (s : State) (v : Bool) : (s.setHalted v).draws = s.draws := rfl
@[simp] theorem State.setHalted_cycles (s : State) (v : Bool) : (s.setHalted v).cycles = s.cycles := rfl
@[simp] theorem State.setHalted_table (s : State) (v : Bool) : (s.setHalted v).table = s.table := rfl
@[simp] theorem State.setEiDelay_cpu_a (s : State) (v : Bool) : (s.setEiDelay v).cpu.a = s.cpu.a := rfl
@[simp] theorem State.setEiDelay_cpu_f (s : State) (v : Bool) : (s.setEiDelay v).cpu.f = s.cpu.f := rfl
@[simp] theorem State.setEiDelay_cpu_b (s : State) (v : Bool) : (s.setEiDelay v).cpu.b = s.cpu.b := rfl
@[simp] theorem State.setEiDelay_cpu_c (s : State) (v : Bool) : (s.setEiDelay v).cpu.c = s.cpu.c := rfl
@[simp] theorem State.setEiDelay_cpu_d (s : State) (v : Bool) : (s.setEiDelay v).cpu.d = s.cpu.d := rfl
@[simp] theorem State.setEiDelay_cpu_e (s : State) (v : Bool) : (s.setEiDelay v).cpu.e = s.cpu.e := rfl
@[simp] theorem State.setEiDelay_cpu_h (s : State) (v : Bool) : (s.setEiDelay v).cpu.h = s.cpu.h := rfl
@[simp] theorem State.setEiDelay_cpu_l (s : State) (v : Bool) : (s.setEiDelay v).cpu.l = s.cpu.l := rfl
@[simp] theorem State.setEiDelay_cpu_a2 (s : State) (v : Bool) : (s.setEiDelay v).cpu.a2 = s.cpu.a2 := rfl
@[simp] theorem State.setEiDelay_cpu_f2 (s : State) (v : Bool) : (s.setEiDelay v).cpu.f2 = s.cpu.f2 := rfl
@[simp] theorem State.setEiDelay_cpu_b2 (s : State) (v : Bool) : (s.setEiDelay v).cpu.b2 = s.cpu.b2 := rfl
@[simp] theorem State.setEiDelay_cpu_c2 (s : State) (v : Bool) : (s.setEiDelay v).cpu.c2 = s.cpu.c2 := rfl
@[simp] theorem State.setEiDelay_cpu_d2 (s : State) (v : Bool) : (s.setEiDelay v).cpu.d2 = s.cpu.d2 := rfl
@[simp] theorem State.setEiDelay_cpu_e2 (s : State) (v : Bool) : (s.setEiDelay v).cpu.e2 = s.cpu.e2 := rfl
@[simp] theorem State.setEiDelay_cpu_h2 (s : State) (v : Bool) : (s.setEiDelay v).cpu.h2 = s.cpu.h2 := rfl
@[simp] theorem State.setEiDelay_cpu_l2 (s : State) (v : Bool) : (s.setEiDelay v).cpu.l2 = s.cpu.l2 := rfl
@[simp] theorem State.setEiDelay_cpu_ix (s : State) (v : Bool) : (s.setEiDelay v).cpu.ix = s.cpu.ix := rfl
@[simp] theorem State.setEiDelay_cpu_iy (s : State) (v : Bool) : (s.setEiDelay v).cpu.iy = s.cpu.iy := rfl
@[simp] theorem State.setEiDelay_cpu_sp (s : State) (v : Bool) : (s.setEiDelay v).cpu.sp = s.cpu.sp := rfl
@[simp] theorem State.setEiDelay_cpu_pc (s : State) (v : Bool) : (s.setEiDelay v).cpu.pc = s.cpu.pc := rfl
@[simp] theorem State.setEiDelay_cpu_i (s : State) (v : Bool) : (s.setEiDelay v).cpu.i = s.cpu.i := rfl
@[simp] theorem State.setEiDelay_cpu_r (s : State) (v : Bool) : (s.setEiDelay v).cpu.r = s.cpu.r := rfl
@[simp] theorem State.setEiDelay_cpu_iff1 (s : State) (v : Bool) : (s.setEiDelay v).cpu.iff1 = s.cpu.iff1 := rfl
@[simp] theorem State.setEiDelay_cpu_iff2 (s : State) (v : Bool) : (s.setEiDelay v).cpu.iff2 = s.cpu.iff2 := rfl
@[simp] theorem State.setEiDelay_cpu_im (s : State) (v : Bool) : (s.setEiDelay v).cpu.im = s.cpu.im := rfl
@[simp] theorem State.setEiDelay_cpu_halted (s : State) (v : Bool) : (s.setEiDelay v).cpu.halted = s.cpu.halted := rfl
@[simp] theorem State.setEiDelay_cpu_eiDelay (s : State) (v : Bool) : (s.setEiDelay v).cpu.eiDelay = v := rfl
@[simp] theorem State.setEiDelay_bus (s : State) (v : Bool) : (s.setEiDelay v).bus = s.bus := rfl
@[simp] theorem State.setEiDelay_screen (s : State) (v : Bool) : (s.setEiDelay v).screen = s.screen := rfl
@[simp] theorem State.setEiDelay_audio (s : State) (v : Bool) : (s.setEiDelay v).audio = s.audio := rfl
@[simp] theorem State.setEiDelay_sched (s : State) (v : Bool) : (s.setEiDelay v).sched = s.sched := rfl
@[simp] theorem State.setEiDelay_roms (s : State) (v : Bool) : (s.setEiDelay v).roms = s.roms := rfl
@[simp] theorem State.setEiDelay_draws (s : State) (v : Bool) : (s.setEiDelay v).draws = s.draws := rfl
@[simp] theorem State.setEiDelay_cycles (s : State) (v : Bool) : (s.setEiDelay v).cycles = s.cycles := rfl
@[simp] theorem State.setEiDelay_table (s : State) (v : Bool) : (s.setEiDelay v).table = s.table := rfl
@[simp] theorem State.done_cpu (s : State) (n : Nat) : (s.done n).cpu = s.cpu := rfl
@[simp] theorem State.done_bus (s : State) (n : Nat) : (s.done n).bus = s.bus := rfl
@[simp] theorem State.done_screen (s : State) (n : Nat) : (s.done n).screen = s.screen := rfl
@[simp] theorem State.done_audio (s : State) (n : Nat) : (s.done n).audio = s.audio := rfl
@[simp] theorem State.done_sched (s : State) (n : Nat) : (s.done n).sched = s.sched := rfl
@[simp] theorem State.done_roms (s : State) (n : Nat) : (s.done n).roms = s.roms := rfl
@[simp] theorem State.done_draws (s : State) (n : Nat) : (s.done n).draws = s.draws := rfl
@[simp] theorem State.done_cycles (s : State) (n : Nat) : (s.done n).cycles = n := rfl
@[simp] theorem State.done_table (s : State) (n : Nat) : (s.done n).table = s.table := rfl
@[simp] theorem State.setTable_cpu (s : State) (t : Table) : (s.setTable t).cpu = s.cpu := rfl
@[simp] theorem State.setTable_bus (s : State) (t : Table) : (s.setTable t).bus = s.bus := rfl
@[simp] theorem State.setTable_screen (s : State) (t : Table) : (s.setTable t).screen = s.screen := rfl
@[simp] theorem State.setTable_audio (s : State) (t : Table) : (s.setTable t).audio = s.audio := rfl
@[simp] theorem State.setTable_sched (s : State) (t : Table) : (s.setTable t).sched = s.sched := rfl
@[simp] theorem State.setTable_roms (s : State) (t : Table) : (s.setTable t).roms = s.roms := rfl
@[simp] theorem State.setTable_draws (s : State) (t : Table) : (s.setTable t).draws = s.draws := rfl
@[simp] theorem State.setTable_cycles (s : State) (t : Table) : (s.setTable t).cycles = s.cycles := rfl
@[simp] theorem State.setTable_table (s : State) (t : Table) : (s.setTable t).table = t := rfl
@[simp] theorem State.drawn_cpu (s : State) : s.drawn.cpu = s.cpu := rfl
@[simp] theorem State.drawn_bus (s : State) : s.drawn.bus = s.bus := rfl
@[simp] theorem State.drawn_screen (s : State) : s.drawn.screen = s.screen := rfl
@[simp] theorem State.drawn_audio (s : State) : s.drawn.audio = s.audio := rfl
@[simp] theorem State.drawn_sched (s : State) : s.drawn.sched = s.sched := rfl
@[simp] theorem State.drawn_roms (s : State) : s.drawn.roms = s.roms := rfl
@[simp] theorem State.drawn_draws (s : State) : s.drawn.draws = s.draws + 1 := rfl
@[simp] theorem State.drawn_cycles (s : State) : s.drawn.cycles = s.cycles := rfl
@[simp] theorem State.drawn_table (s : State) : s.drawn.table = s.table := rfl
@[simp] theorem State.ioWrite_cpu (s : State) (p : Word) (v : Byte) : (s.ioWrite p v).cpu = s.cpu := rfl
@[simp] theorem State.ioWrite_bus_ram (s : State) (p : Word) (v : Byte) : (s.ioWrite p v).bus.ram = s.bus.ram := rfl
@[simp] theorem State.ioWrite_bus_spritePos (s : State) (p : Word) (v : Byte) : (s.ioWrite p v).bus.spritePos = s.bus.spritePos := rfl
@[simp] theorem State.ioWrite_bus_intEnable (s : State) (p : Word) (v : Byte) : (s.ioWrite p v).bus.intEnable = s.bus.intEnable := rfl
@[simp] theorem State.ioWrite_bus_soundEnable (s : State) (p : Word) (v : Byte) : (s.ioWrite p v).bus.soundEnable = s.bus.soundEnable := rfl
@[simp] theorem State.ioWrite_bus_flipScreen (s : State) (p : Word) (v : Byte) : (s.ioWrite p v).bus.flipScreen = s.bus.flipScreen := rfl
@[simp] theorem State.ioWrite_bus_intVector (s : State) (p : Word) (v : Byte) : (s.ioWrite p v).bus.intVector = v := rfl
@[simp] theorem State.ioWrite_bus_inputs (s : State) (p : Word) (v : Byte) : (s.ioWrite p v).bus.inputs = s.bus.inputs := rfl
@[simp] theorem State.ioWrite_screen (s : State) (p : Word) (v : Byte) : (s.ioWrite p v).screen = s.screen := rfl
@[simp] theorem State.ioWrite_audio (s : State) (p : Word) (v : Byte) : (s.ioWrite p v).audio = s.audio := rfl
@[simp] theorem State.ioWrite_sched (s : State) (p : Word) (v : Byte) : (s.ioWrite p v).sched = s.sched := rfl
@[simp] theorem State.ioWrite_roms (s : State) (p : Word) (v : Byte) : (s.ioWrite p v).roms = s.roms := rfl
@[simp] theorem State.ioWrite_draws (s : State) (p : Word) (v : Byte) : (s.ioWrite p v).draws = s.draws := rfl
@[simp] theorem State.ioWrite_cycles (s : State) (p : Word) (v : Byte) : (s.ioWrite p v).cycles = s.cycles := rfl
@[simp] theorem State.ioWrite_table (s : State) (p : Word) (v : Byte) : (s.ioWrite p v).table = s.table := rfl

/-! ### Reading a register back -/

@[simp] theorem Cpu.reg_setReg_same (c : Cpu) (r : Reg8) (v : Byte) : (c.setReg r v).reg r = v := by cases r <;> rfl

theorem Cpu.reg_setReg_other (c : Cpu) (r r' : Reg8) (v : Byte) (h : r' ≠ r) :
    (c.setReg r v).reg r' = c.reg r' := by
  cases r <;> cases r' <;> first | rfl | exact absurd rfl h

@[simp] theorem Cpu.ii_setIi_same (c : Cpu) (i : Index) (v : Word) : (c.setIi i v).ii i = v := by cases i <;> rfl

end Sys2Proof.Machine
end

