-- ==== Sys2Proof/Laws/Ops.lean ====
section
/-! SUPPORT. For each shared operation of Machine/Ops.lean and Machine/Operands.lean, one lemma that says all it does:
what it gives the CPU, what it stores, and each flag. -/

namespace Sys2Proof.Machine

/-! ### Operands, conditions, the refresh counter -/

/-- The displacement is signed, the address wraps (R144). -/
theorem State.idxAddr_toNat (s : State) (i : Index) (d : Byte) :
    ((s.idxAddr i d).toNat : Int) = ((s.ii i).toNat + d.toInt) % 65536 := by
  simp only [State.idxAddr, sext8, BitVec.toNat_add, BitVec.toNat_signExtend, BitVec.toInt_eq_toNat_cond]
  have h1 := d.isLt
  have h2 := (s.ii i).isLt
  simp only [BitVec.msb_eq_decide, BitVec.toNat_setWidth, decide_eq_true_eq]
  split_ifs <;> omega

/-- The target of a relative jump (R422). -/
theorem pc_add_sext8 (pc : Word) (e : Byte) : BitVec.ofInt 16 ((pc.toNat : Int) + e.toInt) = pc + sext8 e := by
  apply BitVec.eq_of_toNat_eq
  have h1 := pc.isLt
  have h2 := e.isLt
  simp only [sext8, BitVec.toNat_ofInt, BitVec.toNat_add, BitVec.toNat_signExtend, BitVec.toInt_eq_toNat_cond,
    BitVec.toNat_setWidth, BitVec.msb_eq_decide]
  split_ifs <;> simp_all <;> omega

/-- A condition of Safety.lean is one of the machine (R13). -/
theorem State.meets_eq_holds (s : State) (cc : Cond) : s.cpu.meets cc = s.holds cc := by cases cc <;> rfl

/-- `IncR` with bit 7 and the low seven bits apart (R18). -/
theorem incR_eq (r : Byte) (n : Nat) :
    incR r n = BitVec.ofNat 8 (r.toNat / 128 * 128 + (r.toNat % 128 + n) % 128) := by
  have top : ∀ r : Byte, r &&& 0x80 = if 128 ≤ r.toNat then 0x80 else 0 := by decide +kernel
  have low : ∀ k : Fin 128, (0x80 : Byte) ||| BitVec.ofNat 8 k.val = BitVec.ofNat 8 (128 + k.val) := by decide +kernel
  have hr := r.isLt
  have hk : (r.toNat % 128 + n) % 128 < 128 := Nat.mod_lt _ (by decide)
  unfold incR
  rw [top]
  split_ifs with h
  · rw [show r.toNat / 128 * 128 = 128 by omega]
    exact low ⟨_, hk⟩
  · rw [show r.toNat / 128 * 128 = 0 by omega, Nat.zero_add]
    simp

/-! ### Two-byte memory accesses and the stack (R13) -/

@[simp] theorem State.memWrite16_cpu (s : State) (a v : Word) : (s.memWrite16 a v).cpu = s.cpu := by
  simp [State.memWrite16]

/-- `MemWrite(addr, 2, v)` stores the low byte at `addr`, then the high byte at `addr + 1`. -/
theorem State.memWrite16_storesTwo (s : State) (a v : Word) (n : Nat) :
    StoresTwo s ((s.memWrite16 a v).done n) a (lo v) (a + 1) (hi v) n := StoresTwo.intro rfl

@[simp] theorem State.push16_cpu (s : State) (v : Word) :
    (s.push16 v).cpu = { s.cpu with sp := s.cpu.sp - 2 } := by
  simp [State.push16, State.setSp]

/-- `Push16(v)` stores the high byte at `SP - 1`, then the low byte at `SP - 2`. -/
theorem State.push16_storesTwo (s : State) (v : Word) (n : Nat) :
    StoresTwo s ((s.push16 v).done n) (s.cpu.sp - 1) (hi v) (s.cpu.sp - 2) (lo v) n := StoresTwo.intro rfl

/-- `Pop16()` reads the low byte at `SP` and the high byte at `SP + 1`. -/
theorem State.popValue_eq (s : State) : s.popValue = s.busRead (s.cpu.sp + 1) ++ s.busRead s.cpu.sp := rfl

@[simp] theorem State.popped_cpu (s : State) : s.popped.cpu = { s.cpu with sp := s.cpu.sp + 2 } := rfl

/-- The return from an interrupt (R434, R435). -/
theorem State.returnFromInterrupt_eq (s : State) :
    s.returnFromInterrupt =
      { s with cpu := { s.cpu with
          pc := s.busRead (s.cpu.sp + 1) ++ s.busRead s.cpu.sp, sp := s.cpu.sp + 2, iff1 := s.cpu.iff2 } } := rfl

/-- A refused interrupt changes nothing (R522). -/
theorem State.raiseInterrupt_refused (s : State) (vector : Byte) (h : s.cpu.iff1 = false ∨ s.cpu.eiDelay = true) :
    s.raiseInterrupt vector = (s, 0) := by
  unfold State.raiseInterrupt State.raiseInterruptWith
  exact if_pos h

/-- A bus write does not look at the CPU. -/
theorem State.busWrite_withCpu (s : State) (c : Cpu) (a : Word) (v : Byte) :
    ({ s with cpu := c } : State).busWrite a v = { s.busWrite a v with cpu := c } := by
  unfold State.busWrite
  cases writeTarget a <;> rfl

/-- An accepted interrupt (R510): the CPU and the memory after it, whatever its target. -/
theorem State.raiseInterrupt_accepted (s : State) (vector : Byte) (h1 : s.cpu.iff1 = true)
    (h2 : s.cpu.eiDelay = false) :
    (s.raiseInterrupt vector).1 =
      { (s.busWrite (s.cpu.sp - 1) (hi s.cpu.pc)).busWrite (s.cpu.sp - 2) (lo s.cpu.pc) with
        cpu := { s.cpu with
          halted := false, iff1 := false, iff2 := false, r := incR s.cpu.r 1, sp := s.cpu.sp - 2
          pc := (s.raiseInterrupt vector).1.cpu.pc } } := by
  unfold State.raiseInterrupt State.raiseInterruptWith
  rw [if_neg (by simp [h1, h2])]
  simp only [State.push16, State.ackInterrupt, State.setPc, State.setSp, State.busWrite_withCpu]

/-! ### The accumulator operations (R291 to R298) -/

/-- The flags of R291 and R293 from an arithmetic result. -/
theorem arithFlags_szyxF (c : Cpu) (x : Sum8) (subtract : Bool) (signed : Int)
    (hv : x.v = decide (signed < -128 ∨ 127 < signed)) :
    ({ c with f := szyxF x.r x.h x.v subtract x.cy } : Cpu).ArithFlags x.r x.h x.cy signed subtract := by
  obtain ⟨k1, k2, k3, k4, k5⟩ := shows_szyxF c x.r x.h x.v subtract x.cy
  exact ⟨k1, k2, k3.trans hv, k4, k5⟩

/-- `ADD A,v` (carry false) and `ADC A,v` (carry `CF`). -/
theorem State.add_spec (s : State) (v : Byte) (c : Bool) (n : Nat) :
    let t := ((s.setReg .a (add8 s.cpu.a v c).r).setF (addFlags (add8 s.cpu.a v c))).done n
    let sum : Byte := BitVec.ofNat 8 (s.cpu.a.toNat + v.toNat + c.toNat)
    CpuOnly s t n ∧ s.cpu.OnlyRegAndFlags t.cpu .a sum ∧
      t.cpu.ArithFlags sum (decide (15 < s.cpu.a.toNat % 16 + v.toNat % 16 + c.toNat))
        (decide (255 < s.cpu.a.toNat + v.toNat + c.toNat)) (s.cpu.a.toInt + v.toInt + c.toNat) false :=
  ⟨CpuOnly.intro rfl, Cpu.onlyRegAndFlags_setReg s.cpu .a _ _,
    arithFlags_szyxF (s.cpu.setReg .a _) (add8 s.cpu.a v c) false _ (add8_v _ _ _)⟩

/-- `SUB v`, `SBC A,v` and `NEG`: the accumulator takes `a - v - c`. -/
theorem State.sub_spec (s : State) (a v : Byte) (c : Bool) (n : Nat) :
    let t := ((s.setReg .a (sub8 a v c).r).setF (subFlags (sub8 a v c))).done n
    let diff : Int := (a.toNat : Int) - v.toNat - c.toNat
    CpuOnly s t n ∧ s.cpu.OnlyRegAndFlags t.cpu .a (BitVec.ofInt 8 diff) ∧
      t.cpu.ArithFlags (BitVec.ofInt 8 diff) (decide (a.toNat % 16 < v.toNat % 16 + c.toNat)) (decide (diff < 0))
        (a.toInt - v.toInt - c.toNat) true :=
  ⟨CpuOnly.intro rfl, Cpu.onlyRegAndFlags_setReg s.cpu .a _ _,
    arithFlags_szyxF (s.cpu.setReg .a _) (sub8 a v c) true _ (sub8_v _ _ _)⟩

/-- `AND`, `XOR` and `OR` with result `r` (R295 to R297). -/
theorem State.logic_spec (s : State) (r : Byte) (hf : Bool) (n : Nat) :
    let t := ((s.setReg .a r).setF (szyxF r hf (parity r) false false)).done n
    CpuOnly s t n ∧ s.cpu.OnlyRegAndFlags t.cpu .a r ∧ t.cpu.Shows r ∧ t.cpu.hf = hf ∧ t.cpu.pf = evenOnes r ∧
      t.cpu.nf = false ∧ t.cpu.cf = false := by
  obtain ⟨k1, k2, k3, k4, k5⟩ := shows_szyxF (s.cpu.setReg .a r) r hf (parity r) false false
  exact ⟨CpuOnly.intro rfl, Cpu.onlyRegAndFlags_setReg s.cpu .a _ _, k1, k2, k3.trans (parity_eq_evenOnes r), k4, k5⟩

/-- `CP v`: the flags of R298, nothing else. -/
theorem State.aluCp_spec (s : State) (v : Byte) (n : Nat) :
    let a := s.cpu.a
    let t := (s.aluCp v).done n
    CpuOnly s t n ∧ t.cpu = { s.cpu with f := t.cpu.f } ∧ t.cpu.sf = (a - v).getLsbD 7 ∧
      t.cpu.zf = decide (a - v = 0) ∧ t.cpu.yf = v.getLsbD 5 ∧ t.cpu.xf = v.getLsbD 3 ∧
      t.cpu.hf = (sub8 a v false).h ∧ t.cpu.pf = (sub8 a v false).v ∧ t.cpu.nf = true ∧
      t.cpu.cf = (sub8 a v false).cy := by
  refine ⟨CpuOnly.intro rfl, rfl, ?_, ?_, ?_, ?_, ?_, ?_, ?_, ?_⟩ <;>
    simp only [State.aluCp, State.done, State.setF, cpFlags]
  · rw [packF_sf, sub8_r]; rfl
  · rw [packF_zf, sub8_r]
  · rw [packF_yf]; rfl
  · rw [packF_xf]; rfl
  · rw [packF_hf]
  · rw [packF_pf]
  · rw [packF_nf]
  · rw [packF_cf]

/-! ### Increments, decrements (R299, R302) -/

/-- The flags of an increment of `v`. -/
theorem incFlags_spec (c : Cpu) (v : Byte) (cf : Bool) :
    let d : Cpu := { c with f := incFlags v (v + 1) cf }
    d.Shows (v + 1) ∧ d.hf = decide (v.toNat % 16 = 15) ∧ d.pf = decide (v = 0x7F) ∧ d.nf = false ∧ d.cf = cf :=
  shows_szyxF c (v + 1) _ _ _ _

/-- The flags of a decrement of `v`. -/
theorem decFlags_spec (c : Cpu) (v : Byte) (cf : Bool) :
    let d : Cpu := { c with f := decFlags v (v - 1) cf }
    d.Shows (v - 1) ∧ d.hf = decide (v.toNat % 16 = 0) ∧ d.pf = decide (v = 0x80) ∧ d.nf = true ∧ d.cf = cf :=
  shows_szyxF c (v - 1) _ _ _ _

/-! ### Rotates and bits (R370 to R410) -/

/-- Each rotate and shift in numbers (R375 to R382). -/
theorem rotate_eq (op : Rot) (v : Byte) (cf : Bool) :
    rotate op v cf =
      match op with
      | .rlc => (BitVec.ofNat 8 (v.toNat * 2 % 256 + v.toNat / 128), decide (v.toNat / 128 = 1))
      | .rrc => (BitVec.ofNat 8 (v.toNat / 2 + 128 * (v.toNat % 2)), decide (v.toNat % 2 = 1))
      | .rl => (BitVec.ofNat 8 (v.toNat * 2 % 256 + cf.toNat), decide (v.toNat / 128 = 1))
      | .rr => (BitVec.ofNat 8 (v.toNat / 2 + 128 * cf.toNat), decide (v.toNat % 2 = 1))
      | .sla => (BitVec.ofNat 8 (v.toNat * 2 % 256), decide (v.toNat / 128 = 1))
      | .sra => (BitVec.ofNat 8 (v.toNat / 2 + 128 * (v.toNat / 128)), decide (v.toNat % 2 = 1))
      | .sll => (BitVec.ofNat 8 (v.toNat * 2 % 256 + 1), decide (v.toNat / 128 = 1))
      | .srl => (BitVec.ofNat 8 (v.toNat / 2), decide (v.toNat % 2 = 1)) := by
  revert v cf
  cases op <;> decide +kernel

/-- The flags of a rotate or shift with result `w` and carry `c` (R374). -/
theorem rotFlags_spec (c : Cpu) (w : Byte) (cf : Bool) :
    let d : Cpu := { c with f := rotFlags w cf }
    d.Shows w ∧ d.hf = false ∧ d.pf = evenOnes w ∧ d.nf = false ∧ d.cf = cf := by
  obtain ⟨k1, k2, k3, k4, k5⟩ := shows_szyxF c w false (parity w) false cf
  exact ⟨k1, k2, k3.trans (parity_eq_evenOnes w), k4, k5⟩

/-- `ROT[y]` of a memory byte: what it stores and the flags, whatever the form. -/
theorem State.rotateMem_spec (s : State) (op : Rot) (a : Word) (n : Nat) :
    let w := (rotate op (s.busRead a) s.cpu.cf).1
    let t := (s.rotateMem op a).done n
    StoresByte s t a w n ∧ t.cpu = { s.cpu with f := rotFlags w (rotate op (s.busRead a) s.cpu.cf).2 } :=
  ⟨StoresByte.intro rfl, by simp [State.rotateMem, State.setF, State.done]⟩

/-- `ROT[y] (ii+d),r`: the result also goes to the register (R163). -/
theorem State.rotateMemReg_spec (s : State) (op : Rot) (a : Word) (r : Reg8) (n : Nat) :
    let w := (rotate op (s.busRead a) s.cpu.cf).1
    let t := (s.rotateMemReg op a r).done n
    StoresByte s t a w n ∧
      t.cpu = { s.cpu.setReg r w with f := rotFlags w (rotate op (s.busRead a) s.cpu.cf).2 } :=
  ⟨StoresByte.intro rfl, by simp [State.rotateMemReg, State.setF, State.setReg, State.done]⟩

/-- `SET b` and `RES b` of a byte, bit by bit (R403, R407). -/
theorem setBitOf_resBitOf_bits (v : Byte) (b : Fin 8) :
    (∀ k, k < 8 → (setBitOf v b.val).getLsbD k = if k = b.val then true else v.getLsbD k) ∧
      ∀ k, k < 8 → (resBitOf v b.val).getLsbD k = if k = b.val then false else v.getLsbD k := by
  have one : ∀ b k : Fin 8, ((1 : Byte) <<< b.val).getLsbD k.val = decide (k.val = b.val) := by decide
  refine ⟨fun k hk => ?_, fun k hk => ?_⟩
  · rw [setBitOf, BitVec.getLsbD_or, one b ⟨k, hk⟩]
    split_ifs with h <;> simp [h]
  · rw [resBitOf, BitVec.getLsbD_and, BitVec.getLsbD_not, one b ⟨k, hk⟩]
    split_ifs with h <;> simp [h, hk]

/-! ### Block iterations (R265 to R272, R456 to R463) -/

/-- One iteration of a block transfer: what it stores, the pointers, the counter and the flag byte. -/
theorem State.blockLoad_spec (s : State) (d : Dir) :
    let t := s.blockLoad d
    t = { s.busWrite s.de (s.busRead s.hl) with cpu := t.cpu } ∧
      t.hl = d.advance s.hl ∧ t.de = d.advance s.de ∧ t.bc = s.bc - 1 ∧
      t.cpu = { s.cpu with
        b := t.cpu.b, c := t.cpu.c, d := t.cpu.d, e := t.cpu.e, h := t.cpu.h, l := t.cpu.l
        f := ldBlockFlags s.cpu (s.busRead s.hl) (s.bc - 1) } := by
  refine ⟨rfl, ?_, ?_, ?_, ?_⟩ <;>
    simp [State.blockLoad, State.setRp, Cpu.setRp, State.setF, State.hl, State.de, State.bc, Cpu.rp]

/-- One iteration of a block search. -/
theorem State.blockCompare_spec (s : State) (d : Dir) :
    let t := s.blockCompare d
    t = { s with cpu := t.cpu } ∧ t.hl = d.advance s.hl ∧ t.bc = s.bc - 1 ∧
      t.cpu = { s.cpu with
        b := t.cpu.b, c := t.cpu.c, h := t.cpu.h, l := t.cpu.l
        f := cpBlockFlags s.cpu (s.busRead s.hl) (s.bc - 1) } := by
  refine ⟨rfl, ?_, ?_, ?_⟩ <;>
    simp [State.blockCompare, State.setRp, Cpu.setRp, State.setF, State.hl, State.bc, Cpu.rp]

/-- One iteration of a block input: the byte of the port goes to memory. -/
theorem State.blockIn_spec (s : State) (d : Dir) :
    let t := s.blockIn d
    let v := s.ioRead s.bc
    t = { s.busWrite s.hl v with cpu := t.cpu, draws := s.draws + 1 } ∧
      t.cpu = { s.cpu with
        b := s.cpu.b - 1, h := hi (d.advance s.hl), l := lo (d.advance s.hl)
        f := ioBlockFlags v (s.cpu.b - 1) (v.toNat + (d.advanceByte s.cpu.c).toNat) } := by
  refine ⟨?_, ?_⟩
  · simp only [State.blockIn, State.setRp, State.setF, State.setReg, State.drawn]
    unfold State.busWrite
    cases writeTarget s.hl <;> rfl
  · simp [State.blockIn, State.setRp, Cpu.setRp, State.setF, State.setReg, Cpu.setReg, State.drawn]

/-- One iteration of a block output: the byte in memory goes to the interrupt vector. -/
theorem State.blockOut_spec (s : State) (d : Dir) :
    let t := s.blockOut d
    let v := s.busRead s.hl
    t = { s with cpu := t.cpu, bus := { s.bus with intVector := v } } ∧
      t.cpu = { s.cpu with
        b := s.cpu.b - 1, h := hi (d.advance s.hl), l := lo (d.advance s.hl)
        f := ioBlockFlags v (s.cpu.b - 1) (v.toNat + (lo (d.advance s.hl)).toNat) } := ⟨rfl, rfl⟩

/-- The flags of block input and output. -/
theorem ioBlockFlags_spec (c : Cpu) (v bn : Byte) (k : Nat) :
    let d : Cpu := { c with f := ioBlockFlags v bn k }
    d.Shows bn ∧ d.hf = decide (255 < k) ∧ d.pf = evenOnes (BitVec.ofNat 8 (k % 8) ^^^ bn) ∧
      d.nf = v.getLsbD 7 ∧ d.cf = decide (255 < k) := by
  obtain ⟨k1, k2, k3, k4, k5⟩ :=
    shows_szyxF c bn (decide (k > 255)) (parity (BitVec.ofNat 8 (k % 8) ^^^ bn)) (bitOf v 7) (decide (k > 255))
  exact ⟨k1, k2, k3.trans (parity_eq_evenOnes _), k4, k5⟩

/-- Going back to the first byte and the cost, or going on (R266). -/
theorem State.repeatIf_eq (s : State) (again : Bool) :
    s.repeatIf again =
      { s with cpu := { s.cpu with pc := if again then s.cpu.pc - 2 else s.cpu.pc }
               cycles := if again then 21 else 16 } := by
  cases again <;> rfl

end Sys2Proof.Machine
end

