-- ==== Sys2Proof/Laws/PerInstr.lean ====
section
/-! SUPPORT. For every instruction by itself: its encoding has 1 to 4 bytes (R140). -/

namespace Sys2Proof.Laws.EncodedLength

/-- The encoding of `i` has 1 to 4 bytes (R140). -/
def Statement (i : Instr) : Prop := 1 ≤ (encode i).length ∧ (encode i).length ≤ 4

/-- The bytes of an index prefix without effect are at most one. -/
theorem pass_length (p : Pass) : p.bytes.length ≤ 1 := by cases p <;> decide

/-- An encoding of one to three bytes stays within four behind an index prefix. -/
theorem of_pass (p : Pass) (l : List Byte) (h1 : 1 ≤ l.length) (h2 : l.length ≤ 3) :
    1 ≤ (p.bytes ++ l).length ∧ (p.bytes ++ l).length ≤ 4 := by
  have h := pass_length p
  rw [List.length_append]
  omega

theorem nop (p : Pass) : Statement (.nop p) :=
  of_pass p _ (Nat.le_of_ble_eq_true rfl) (Nat.le_of_ble_eq_true rfl)
theorem exAfAf (p : Pass) : Statement (.exAfAf p) :=
  of_pass p _ (Nat.le_of_ble_eq_true rfl) (Nat.le_of_ble_eq_true rfl)
theorem djnz (p : Pass) (e : Byte) : Statement (.djnz p e) :=
  of_pass p _ (Nat.le_of_ble_eq_true rfl) (Nat.le_of_ble_eq_true rfl)
theorem jrE (p : Pass) (e : Byte) : Statement (.jrE p e) :=
  of_pass p _ (Nat.le_of_ble_eq_true rfl) (Nat.le_of_ble_eq_true rfl)
theorem jrCcE (p : Pass) (cc : JrCond) (e : Byte) : Statement (.jrCcE p cc e) :=
  of_pass p _ (Nat.le_of_ble_eq_true rfl) (Nat.le_of_ble_eq_true rfl)
theorem ldDdNn (p : Pass) (q : Pair) (nn : Word) : Statement (.ldDdNn p q nn) :=
  of_pass p _ (Nat.le_of_ble_eq_true rfl) (Nat.le_of_ble_eq_true rfl)
theorem addHlSs (q : Pair) : Statement (.addHlSs q) :=
  ⟨Nat.le_of_ble_eq_true rfl, Nat.le_of_ble_eq_true rfl⟩
theorem ldBcA (p : Pass) : Statement (.ldBcA p) :=
  of_pass p _ (Nat.le_of_ble_eq_true rfl) (Nat.le_of_ble_eq_true rfl)
theorem ldDeA (p : Pass) : Statement (.ldDeA p) :=
  of_pass p _ (Nat.le_of_ble_eq_true rfl) (Nat.le_of_ble_eq_true rfl)
theorem ldNnHl (nn : Word) : Statement (.ldNnHl nn) :=
  ⟨Nat.le_of_ble_eq_true rfl, Nat.le_of_ble_eq_true rfl⟩
theorem ldNnA (p : Pass) (nn : Word) : Statement (.ldNnA p nn) :=
  of_pass p _ (Nat.le_of_ble_eq_true rfl) (Nat.le_of_ble_eq_true rfl)
theorem ldABc (p : Pass) : Statement (.ldABc p) :=
  of_pass p _ (Nat.le_of_ble_eq_true rfl) (Nat.le_of_ble_eq_true rfl)
theorem ldADe (p : Pass) : Statement (.ldADe p) :=
  of_pass p _ (Nat.le_of_ble_eq_true rfl) (Nat.le_of_ble_eq_true rfl)
theorem ldHlNn (nn : Word) : Statement (.ldHlNn nn) :=
  ⟨Nat.le_of_ble_eq_true rfl, Nat.le_of_ble_eq_true rfl⟩
theorem ldANn (p : Pass) (nn : Word) : Statement (.ldANn p nn) :=
  of_pass p _ (Nat.le_of_ble_eq_true rfl) (Nat.le_of_ble_eq_true rfl)
theorem incSs (p : Pass) (q : Pair) : Statement (.incSs p q) :=
  of_pass p _ (Nat.le_of_ble_eq_true rfl) (Nat.le_of_ble_eq_true rfl)
theorem decSs (p : Pass) (q : Pair) : Statement (.decSs p q) :=
  of_pass p _ (Nat.le_of_ble_eq_true rfl) (Nat.le_of_ble_eq_true rfl)
theorem incR (p : Pass) (r : Reg8) : Statement (.incR p r) :=
  of_pass p _ (Nat.le_of_ble_eq_true rfl) (Nat.le_of_ble_eq_true rfl)
theorem decR (p : Pass) (r : Reg8) : Statement (.decR p r) :=
  of_pass p _ (Nat.le_of_ble_eq_true rfl) (Nat.le_of_ble_eq_true rfl)
theorem ldRN (p : Pass) (r : Reg8) (n : Byte) : Statement (.ldRN p r n) :=
  of_pass p _ (Nat.le_of_ble_eq_true rfl) (Nat.le_of_ble_eq_true rfl)
theorem ldHlN (n : Byte) : Statement (.ldHlN n) :=
  ⟨Nat.le_of_ble_eq_true rfl, Nat.le_of_ble_eq_true rfl⟩
theorem rlca (p : Pass) : Statement (.rlca p) :=
  of_pass p _ (Nat.le_of_ble_eq_true rfl) (Nat.le_of_ble_eq_true rfl)
theorem rrca (p : Pass) : Statement (.rrca p) :=
  of_pass p _ (Nat.le_of_ble_eq_true rfl) (Nat.le_of_ble_eq_true rfl)
theorem rla (p : Pass) : Statement (.rla p) :=
  of_pass p _ (Nat.le_of_ble_eq_true rfl) (Nat.le_of_ble_eq_true rfl)
theorem rra (p : Pass) : Statement (.rra p) :=
  of_pass p _ (Nat.le_of_ble_eq_true rfl) (Nat.le_of_ble_eq_true rfl)
theorem daa (p : Pass) : Statement (.daa p) :=
  of_pass p _ (Nat.le_of_ble_eq_true rfl) (Nat.le_of_ble_eq_true rfl)
theorem cpl (p : Pass) : Statement (.cpl p) :=
  of_pass p _ (Nat.le_of_ble_eq_true rfl) (Nat.le_of_ble_eq_true rfl)
theorem scf (p : Pass) : Statement (.scf p) :=
  of_pass p _ (Nat.le_of_ble_eq_true rfl) (Nat.le_of_ble_eq_true rfl)
theorem ccf (p : Pass) : Statement (.ccf p) :=
  of_pass p _ (Nat.le_of_ble_eq_true rfl) (Nat.le_of_ble_eq_true rfl)
theorem ldRR (p : Pass) (dst : Reg8) (r : Reg8) : Statement (.ldRR p dst r) :=
  of_pass p _ (Nat.le_of_ble_eq_true rfl) (Nat.le_of_ble_eq_true rfl)
theorem ldRHl (r : Reg8) : Statement (.ldRHl r) :=
  ⟨Nat.le_of_ble_eq_true rfl, Nat.le_of_ble_eq_true rfl⟩
theorem ldHlR (r : Reg8) : Statement (.ldHlR r) :=
  ⟨Nat.le_of_ble_eq_true rfl, Nat.le_of_ble_eq_true rfl⟩
theorem halt (p : Pass) : Statement (.halt p) :=
  of_pass p _ (Nat.le_of_ble_eq_true rfl) (Nat.le_of_ble_eq_true rfl)
theorem addAR (p : Pass) (r : Reg8) : Statement (.addAR p r) :=
  of_pass p _ (Nat.le_of_ble_eq_true rfl) (Nat.le_of_ble_eq_true rfl)
theorem addAN (p : Pass) (n : Byte) : Statement (.addAN p n) :=
  of_pass p _ (Nat.le_of_ble_eq_true rfl) (Nat.le_of_ble_eq_true rfl)
theorem adcAR (p : Pass) (r : Reg8) : Statement (.adcAR p r) :=
  of_pass p _ (Nat.le_of_ble_eq_true rfl) (Nat.le_of_ble_eq_true rfl)
theorem adcAN (p : Pass) (n : Byte) : Statement (.adcAN p n) :=
  of_pass p _ (Nat.le_of_ble_eq_true rfl) (Nat.le_of_ble_eq_true rfl)
theorem subR (p : Pass) (r : Reg8) : Statement (.subR p r) :=
  of_pass p _ (Nat.le_of_ble_eq_true rfl) (Nat.le_of_ble_eq_true rfl)
theorem subN (p : Pass) (n : Byte) : Statement (.subN p n) :=
  of_pass p _ (Nat.le_of_ble_eq_true rfl) (Nat.le_of_ble_eq_true rfl)
theorem sbcAR (p : Pass) (r : Reg8) : Statement (.sbcAR p r) :=
  of_pass p _ (Nat.le_of_ble_eq_true rfl) (Nat.le_of_ble_eq_true rfl)
theorem sbcAN (p : Pass) (n : Byte) : Statement (.sbcAN p n) :=
  of_pass p _ (Nat.le_of_ble_eq_true rfl) (Nat.le_of_ble_eq_true rfl)
theorem andR (p : Pass) (r : Reg8) : Statement (.andR p r) :=
  of_pass p _ (Nat.le_of_ble_eq_true rfl) (Nat.le_of_ble_eq_true rfl)
theorem andN (p : Pass) (n : Byte) : Statement (.andN p n) :=
  of_pass p _ (Nat.le_of_ble_eq_true rfl) (Nat.le_of_ble_eq_true rfl)
theorem xorR (p : Pass) (r : Reg8) : Statement (.xorR p r) :=
  of_pass p _ (Nat.le_of_ble_eq_true rfl) (Nat.le_of_ble_eq_true rfl)
theorem xorN (p : Pass) (n : Byte) : Statement (.xorN p n) :=
  of_pass p _ (Nat.le_of_ble_eq_true rfl) (Nat.le_of_ble_eq_true rfl)
theorem orR (p : Pass) (r : Reg8) : Statement (.orR p r) :=
  of_pass p _ (Nat.le_of_ble_eq_true rfl) (Nat.le_of_ble_eq_true rfl)
theorem orN (p : Pass) (n : Byte) : Statement (.orN p n) :=
  of_pass p _ (Nat.le_of_ble_eq_true rfl) (Nat.le_of_ble_eq_true rfl)
theorem cpR (p : Pass) (r : Reg8) : Statement (.cpR p r) :=
  of_pass p _ (Nat.le_of_ble_eq_true rfl) (Nat.le_of_ble_eq_true rfl)
theorem cpN (p : Pass) (n : Byte) : Statement (.cpN p n) :=
  of_pass p _ (Nat.le_of_ble_eq_true rfl) (Nat.le_of_ble_eq_true rfl)
theorem retCc (p : Pass) (cc : Cond) : Statement (.retCc p cc) :=
  of_pass p _ (Nat.le_of_ble_eq_true rfl) (Nat.le_of_ble_eq_true rfl)
theorem popQq (p : Pass) (q : StackPair) : Statement (.popQq p q) :=
  of_pass p _ (Nat.le_of_ble_eq_true rfl) (Nat.le_of_ble_eq_true rfl)
theorem ret (p : Pass) : Statement (.ret p) :=
  of_pass p _ (Nat.le_of_ble_eq_true rfl) (Nat.le_of_ble_eq_true rfl)
theorem exx (p : Pass) : Statement (.exx p) :=
  of_pass p _ (Nat.le_of_ble_eq_true rfl) (Nat.le_of_ble_eq_true rfl)
theorem jpCcNn (p : Pass) (cc : Cond) (nn : Word) : Statement (.jpCcNn p cc nn) :=
  of_pass p _ (Nat.le_of_ble_eq_true rfl) (Nat.le_of_ble_eq_true rfl)
theorem jpNn (p : Pass) (nn : Word) : Statement (.jpNn p nn) :=
  of_pass p _ (Nat.le_of_ble_eq_true rfl) (Nat.le_of_ble_eq_true rfl)
theorem outNA (p : Pass) (n : Byte) : Statement (.outNA p n) :=
  of_pass p _ (Nat.le_of_ble_eq_true rfl) (Nat.le_of_ble_eq_true rfl)
theorem inAN (p : Pass) (n : Byte) : Statement (.inAN p n) :=
  of_pass p _ (Nat.le_of_ble_eq_true rfl) (Nat.le_of_ble_eq_true rfl)
theorem exDeHl (p : Pass) : Statement (.exDeHl p) :=
  of_pass p _ (Nat.le_of_ble_eq_true rfl) (Nat.le_of_ble_eq_true rfl)
theorem di (p : Pass) : Statement (.di p) :=
  of_pass p _ (Nat.le_of_ble_eq_true rfl) (Nat.le_of_ble_eq_true rfl)
theorem ei (p : Pass) : Statement (.ei p) :=
  of_pass p _ (Nat.le_of_ble_eq_true rfl) (Nat.le_of_ble_eq_true rfl)
theorem callCcNn (p : Pass) (cc : Cond) (nn : Word) : Statement (.callCcNn p cc nn) :=
  of_pass p _ (Nat.le_of_ble_eq_true rfl) (Nat.le_of_ble_eq_true rfl)
theorem pushQq (p : Pass) (q : StackPair) : Statement (.pushQq p q) :=
  of_pass p _ (Nat.le_of_ble_eq_true rfl) (Nat.le_of_ble_eq_true rfl)
theorem callNn (p : Pass) (nn : Word) : Statement (.callNn p nn) :=
  of_pass p _ (Nat.le_of_ble_eq_true rfl) (Nat.le_of_ble_eq_true rfl)
theorem rst (p : Pass) (t : Code3) : Statement (.rst p t) :=
  of_pass p _ (Nat.le_of_ble_eq_true rfl) (Nat.le_of_ble_eq_true rfl)
theorem rlcR (r : Reg8) : Statement (.rlcR r) :=
  ⟨Nat.le_of_ble_eq_true rfl, Nat.le_of_ble_eq_true rfl⟩
theorem rrcR (r : Reg8) : Statement (.rrcR r) :=
  ⟨Nat.le_of_ble_eq_true rfl, Nat.le_of_ble_eq_true rfl⟩
theorem rlR (r : Reg8) : Statement (.rlR r) :=
  ⟨Nat.le_of_ble_eq_true rfl, Nat.le_of_ble_eq_true rfl⟩
theorem rrR (r : Reg8) : Statement (.rrR r) :=
  ⟨Nat.le_of_ble_eq_true rfl, Nat.le_of_ble_eq_true rfl⟩
theorem slaR (r : Reg8) : Statement (.slaR r) :=
  ⟨Nat.le_of_ble_eq_true rfl, Nat.le_of_ble_eq_true rfl⟩
theorem sraR (r : Reg8) : Statement (.sraR r) :=
  ⟨Nat.le_of_ble_eq_true rfl, Nat.le_of_ble_eq_true rfl⟩
theorem sllR (r : Reg8) : Statement (.sllR r) :=
  ⟨Nat.le_of_ble_eq_true rfl, Nat.le_of_ble_eq_true rfl⟩
theorem srlR (r : Reg8) : Statement (.srlR r) :=
  ⟨Nat.le_of_ble_eq_true rfl, Nat.le_of_ble_eq_true rfl⟩
theorem bitR (b : Code3) (r : Reg8) : Statement (.bitR b r) :=
  ⟨Nat.le_of_ble_eq_true rfl, Nat.le_of_ble_eq_true rfl⟩
theorem bitHl (b : Code3) : Statement (.bitHl b) :=
  ⟨Nat.le_of_ble_eq_true rfl, Nat.le_of_ble_eq_true rfl⟩
theorem resR (b : Code3) (r : Reg8) : Statement (.resR b r) :=
  ⟨Nat.le_of_ble_eq_true rfl, Nat.le_of_ble_eq_true rfl⟩
theorem resHl (b : Code3) : Statement (.resHl b) :=
  ⟨Nat.le_of_ble_eq_true rfl, Nat.le_of_ble_eq_true rfl⟩
theorem setR (b : Code3) (r : Reg8) : Statement (.setR b r) :=
  ⟨Nat.le_of_ble_eq_true rfl, Nat.le_of_ble_eq_true rfl⟩
theorem setHl (b : Code3) : Statement (.setHl b) :=
  ⟨Nat.le_of_ble_eq_true rfl, Nat.le_of_ble_eq_true rfl⟩
theorem inRC (r : Reg8) : Statement (.inRC r) :=
  ⟨Nat.le_of_ble_eq_true rfl, Nat.le_of_ble_eq_true rfl⟩
theorem outCR (r : Reg8) : Statement (.outCR r) :=
  ⟨Nat.le_of_ble_eq_true rfl, Nat.le_of_ble_eq_true rfl⟩
theorem sbcHlSs (q : Pair) : Statement (.sbcHlSs q) :=
  ⟨Nat.le_of_ble_eq_true rfl, Nat.le_of_ble_eq_true rfl⟩
theorem adcHlSs (q : Pair) : Statement (.adcHlSs q) :=
  ⟨Nat.le_of_ble_eq_true rfl, Nat.le_of_ble_eq_true rfl⟩
theorem ldMemDd (q : Pair) (nn : Word) : Statement (.ldMemDd q nn) :=
  ⟨Nat.le_of_ble_eq_true rfl, Nat.le_of_ble_eq_true rfl⟩
theorem ldDdMem (q : Pair) (nn : Word) : Statement (.ldDdMem q nn) :=
  ⟨Nat.le_of_ble_eq_true rfl, Nat.le_of_ble_eq_true rfl⟩
theorem neg (y : Code3) : Statement (.neg y) :=
  ⟨Nat.le_of_ble_eq_true rfl, Nat.le_of_ble_eq_true rfl⟩
theorem retn (y : Code3) : Statement (.retn y) :=
  ⟨Nat.le_of_ble_eq_true rfl, Nat.le_of_ble_eq_true rfl⟩
theorem im0 (y : Code3) : Statement (.im0 y) :=
  ⟨Nat.le_of_ble_eq_true rfl, Nat.le_of_ble_eq_true rfl⟩
theorem im1 (y : Code3) : Statement (.im1 y) :=
  ⟨Nat.le_of_ble_eq_true rfl, Nat.le_of_ble_eq_true rfl⟩
theorem im2 (y : Code3) : Statement (.im2 y) :=
  ⟨Nat.le_of_ble_eq_true rfl, Nat.le_of_ble_eq_true rfl⟩
theorem nopEd (op : Byte) : Statement (.nopEd op) :=
  ⟨Nat.le_of_ble_eq_true rfl, Nat.le_of_ble_eq_true rfl⟩
theorem ldIxNn (nn : Word) : Statement (.ldIxNn nn) :=
  ⟨Nat.le_of_ble_eq_true rfl, Nat.le_of_ble_eq_true rfl⟩
theorem ldMemIx (nn : Word) : Statement (.ldMemIx nn) :=
  ⟨Nat.le_of_ble_eq_true rfl, Nat.le_of_ble_eq_true rfl⟩
theorem ldIxMem (nn : Word) : Statement (.ldIxMem nn) :=
  ⟨Nat.le_of_ble_eq_true rfl, Nat.le_of_ble_eq_true rfl⟩
theorem addIxPp (q : IxPair) : Statement (.addIxPp q) :=
  ⟨Nat.le_of_ble_eq_true rfl, Nat.le_of_ble_eq_true rfl⟩
theorem ldIxhN (n : Byte) : Statement (.ldIxhN n) :=
  ⟨Nat.le_of_ble_eq_true rfl, Nat.le_of_ble_eq_true rfl⟩
theorem ldIxlN (n : Byte) : Statement (.ldIxlN n) :=
  ⟨Nat.le_of_ble_eq_true rfl, Nat.le_of_ble_eq_true rfl⟩
theorem incIxd (d : Byte) : Statement (.incIxd d) :=
  ⟨Nat.le_of_ble_eq_true rfl, Nat.le_of_ble_eq_true rfl⟩
theorem decIxd (d : Byte) : Statement (.decIxd d) :=
  ⟨Nat.le_of_ble_eq_true rfl, Nat.le_of_ble_eq_true rfl⟩
theorem ldIxdN (d : Byte) (n : Byte) : Statement (.ldIxdN d n) :=
  ⟨Nat.le_of_ble_eq_true rfl, Nat.le_of_ble_eq_true rfl⟩
theorem ldRIxd (r : Reg8) (d : Byte) : Statement (.ldRIxd r d) :=
  ⟨Nat.le_of_ble_eq_true rfl, Nat.le_of_ble_eq_true rfl⟩
theorem ldIxdR (r : Reg8) (d : Byte) : Statement (.ldIxdR r d) :=
  ⟨Nat.le_of_ble_eq_true rfl, Nat.le_of_ble_eq_true rfl⟩
theorem ldIxHalfR (h : Half) (r : XReg8) : Statement (.ldIxHalfR h r) :=
  ⟨Nat.le_of_ble_eq_true rfl, Nat.le_of_ble_eq_true rfl⟩
theorem ldRIxHalf (r : Reg8) (h : Half) : Statement (.ldRIxHalf r h) :=
  ⟨Nat.le_of_ble_eq_true rfl, Nat.le_of_ble_eq_true rfl⟩
theorem addAIxd (d : Byte) : Statement (.addAIxd d) :=
  ⟨Nat.le_of_ble_eq_true rfl, Nat.le_of_ble_eq_true rfl⟩
theorem adcAIxd (d : Byte) : Statement (.adcAIxd d) :=
  ⟨Nat.le_of_ble_eq_true rfl, Nat.le_of_ble_eq_true rfl⟩
theorem subIxd (d : Byte) : Statement (.subIxd d) :=
  ⟨Nat.le_of_ble_eq_true rfl, Nat.le_of_ble_eq_true rfl⟩
theorem sbcAIxd (d : Byte) : Statement (.sbcAIxd d) :=
  ⟨Nat.le_of_ble_eq_true rfl, Nat.le_of_ble_eq_true rfl⟩
theorem andIxd (d : Byte) : Statement (.andIxd d) :=
  ⟨Nat.le_of_ble_eq_true rfl, Nat.le_of_ble_eq_true rfl⟩
theorem xorIxd (d : Byte) : Statement (.xorIxd d) :=
  ⟨Nat.le_of_ble_eq_true rfl, Nat.le_of_ble_eq_true rfl⟩
theorem orIxd (d : Byte) : Statement (.orIxd d) :=
  ⟨Nat.le_of_ble_eq_true rfl, Nat.le_of_ble_eq_true rfl⟩
theorem cpIxd (d : Byte) : Statement (.cpIxd d) :=
  ⟨Nat.le_of_ble_eq_true rfl, Nat.le_of_ble_eq_true rfl⟩
theorem ldIyNn (nn : Word) : Statement (.ldIyNn nn) :=
  ⟨Nat.le_of_ble_eq_true rfl, Nat.le_of_ble_eq_true rfl⟩
theorem ldMemIy (nn : Word) : Statement (.ldMemIy nn) :=
  ⟨Nat.le_of_ble_eq_true rfl, Nat.le_of_ble_eq_true rfl⟩
theorem ldIyMem (nn : Word) : Statement (.ldIyMem nn) :=
  ⟨Nat.le_of_ble_eq_true rfl, Nat.le_of_ble_eq_true rfl⟩
theorem addIyPp (q : IxPair) : Statement (.addIyPp q) :=
  ⟨Nat.le_of_ble_eq_true rfl, Nat.le_of_ble_eq_true rfl⟩
theorem ldIyhN (n : Byte) : Statement (.ldIyhN n) :=
  ⟨Nat.le_of_ble_eq_true rfl, Nat.le_of_ble_eq_true rfl⟩
theorem ldIylN (n : Byte) : Statement (.ldIylN n) :=
  ⟨Nat.le_of_ble_eq_true rfl, Nat.le_of_ble_eq_true rfl⟩
theorem incIyd (d : Byte) : Statement (.incIyd d) :=
  ⟨Nat.le_of_ble_eq_true rfl, Nat.le_of_ble_eq_true rfl⟩
theorem decIyd (d : Byte) : Statement (.decIyd d) :=
  ⟨Nat.le_of_ble_eq_true rfl, Nat.le_of_ble_eq_true rfl⟩
theorem ldIydN (d : Byte) (n : Byte) : Statement (.ldIydN d n) :=
  ⟨Nat.le_of_ble_eq_true rfl, Nat.le_of_ble_eq_true rfl⟩
theorem ldRIyd (r : Reg8) (d : Byte) : Statement (.ldRIyd r d) :=
  ⟨Nat.le_of_ble_eq_true rfl, Nat.le_of_ble_eq_true rfl⟩
theorem ldIydR (r : Reg8) (d : Byte) : Statement (.ldIydR r d) :=
  ⟨Nat.le_of_ble_eq_true rfl, Nat.le_of_ble_eq_true rfl⟩
theorem ldIyHalfR (h : Half) (r : XReg8) : Statement (.ldIyHalfR h r) :=
  ⟨Nat.le_of_ble_eq_true rfl, Nat.le_of_ble_eq_true rfl⟩
theorem ldRIyHalf (r : Reg8) (h : Half) : Statement (.ldRIyHalf r h) :=
  ⟨Nat.le_of_ble_eq_true rfl, Nat.le_of_ble_eq_true rfl⟩
theorem addAIyd (d : Byte) : Statement (.addAIyd d) :=
  ⟨Nat.le_of_ble_eq_true rfl, Nat.le_of_ble_eq_true rfl⟩
theorem adcAIyd (d : Byte) : Statement (.adcAIyd d) :=
  ⟨Nat.le_of_ble_eq_true rfl, Nat.le_of_ble_eq_true rfl⟩
theorem subIyd (d : Byte) : Statement (.subIyd d) :=
  ⟨Nat.le_of_ble_eq_true rfl, Nat.le_of_ble_eq_true rfl⟩
theorem sbcAIyd (d : Byte) : Statement (.sbcAIyd d) :=
  ⟨Nat.le_of_ble_eq_true rfl, Nat.le_of_ble_eq_true rfl⟩
theorem andIyd (d : Byte) : Statement (.andIyd d) :=
  ⟨Nat.le_of_ble_eq_true rfl, Nat.le_of_ble_eq_true rfl⟩
theorem xorIyd (d : Byte) : Statement (.xorIyd d) :=
  ⟨Nat.le_of_ble_eq_true rfl, Nat.le_of_ble_eq_true rfl⟩
theorem orIyd (d : Byte) : Statement (.orIyd d) :=
  ⟨Nat.le_of_ble_eq_true rfl, Nat.le_of_ble_eq_true rfl⟩
theorem cpIyd (d : Byte) : Statement (.cpIyd d) :=
  ⟨Nat.le_of_ble_eq_true rfl, Nat.le_of_ble_eq_true rfl⟩
theorem rlcIxd (d : Byte) : Statement (.rlcIxd d) :=
  ⟨Nat.le_of_ble_eq_true rfl, Nat.le_of_ble_eq_true rfl⟩
theorem rlcIxdR (d : Byte) (r : Reg8) : Statement (.rlcIxdR d r) :=
  ⟨Nat.le_of_ble_eq_true rfl, Nat.le_of_ble_eq_true rfl⟩
theorem rrcIxd (d : Byte) : Statement (.rrcIxd d) :=
  ⟨Nat.le_of_ble_eq_true rfl, Nat.le_of_ble_eq_true rfl⟩
theorem rrcIxdR (d : Byte) (r : Reg8) : Statement (.rrcIxdR d r) :=
  ⟨Nat.le_of_ble_eq_true rfl, Nat.le_of_ble_eq_true rfl⟩
theorem rlIxd (d : Byte) : Statement (.rlIxd d) :=
  ⟨Nat.le_of_ble_eq_true rfl, Nat.le_of_ble_eq_true rfl⟩
theorem rlIxdR (d : Byte) (r : Reg8) : Statement (.rlIxdR d r) :=
  ⟨Nat.le_of_ble_eq_true rfl, Nat.le_of_ble_eq_true rfl⟩
theorem rrIxd (d : Byte) : Statement (.rrIxd d) :=
  ⟨Nat.le_of_ble_eq_true rfl, Nat.le_of_ble_eq_true rfl⟩
theorem rrIxdR (d : Byte) (r : Reg8) : Statement (.rrIxdR d r) :=
  ⟨Nat.le_of_ble_eq_true rfl, Nat.le_of_ble_eq_true rfl⟩
theorem slaIxd (d : Byte) : Statement (.slaIxd d) :=
  ⟨Nat.le_of_ble_eq_true rfl, Nat.le_of_ble_eq_true rfl⟩
theorem slaIxdR (d : Byte) (r : Reg8) : Statement (.slaIxdR d r) :=
  ⟨Nat.le_of_ble_eq_true rfl, Nat.le_of_ble_eq_true rfl⟩
theorem sraIxd (d : Byte) : Statement (.sraIxd d) :=
  ⟨Nat.le_of_ble_eq_true rfl, Nat.le_of_ble_eq_true rfl⟩
theorem sraIxdR (d : Byte) (r : Reg8) : Statement (.sraIxdR d r) :=
  ⟨Nat.le_of_ble_eq_true rfl, Nat.le_of_ble_eq_true rfl⟩
theorem sllIxd (d : Byte) : Statement (.sllIxd d) :=
  ⟨Nat.le_of_ble_eq_true rfl, Nat.le_of_ble_eq_true rfl⟩
theorem sllIxdR (d : Byte) (r : Reg8) : Statement (.sllIxdR d r) :=
  ⟨Nat.le_of_ble_eq_true rfl, Nat.le_of_ble_eq_true rfl⟩
theorem srlIxd (d : Byte) : Statement (.srlIxd d) :=
  ⟨Nat.le_of_ble_eq_true rfl, Nat.le_of_ble_eq_true rfl⟩
theorem srlIxdR (d : Byte) (r : Reg8) : Statement (.srlIxdR d r) :=
  ⟨Nat.le_of_ble_eq_true rfl, Nat.le_of_ble_eq_true rfl⟩
theorem bitIxd (b : Code3) (d : Byte) (z : Code3) : Statement (.bitIxd b d z) :=
  ⟨Nat.le_of_ble_eq_true rfl, Nat.le_of_ble_eq_true rfl⟩
theorem resIxd (b : Code3) (d : Byte) : Statement (.resIxd b d) :=
  ⟨Nat.le_of_ble_eq_true rfl, Nat.le_of_ble_eq_true rfl⟩
theorem resIxdR (b : Code3) (d : Byte) (r : Reg8) : Statement (.resIxdR b d r) :=
  ⟨Nat.le_of_ble_eq_true rfl, Nat.le_of_ble_eq_true rfl⟩
theorem setIxd (b : Code3) (d : Byte) : Statement (.setIxd b d) :=
  ⟨Nat.le_of_ble_eq_true rfl, Nat.le_of_ble_eq_true rfl⟩
theorem setIxdR (b : Code3) (d : Byte) (r : Reg8) : Statement (.setIxdR b d r) :=
  ⟨Nat.le_of_ble_eq_true rfl, Nat.le_of_ble_eq_true rfl⟩
theorem rlcIyd (d : Byte) : Statement (.rlcIyd d) :=
  ⟨Nat.le_of_ble_eq_true rfl, Nat.le_of_ble_eq_true rfl⟩
theorem rlcIydR (d : Byte) (r : Reg8) : Statement (.rlcIydR d r) :=
  ⟨Nat.le_of_ble_eq_true rfl, Nat.le_of_ble_eq_true rfl⟩
theorem rrcIyd (d : Byte) : Statement (.rrcIyd d) :=
  ⟨Nat.le_of_ble_eq_true rfl, Nat.le_of_ble_eq_true rfl⟩
theorem rrcIydR (d : Byte) (r : Reg8) : Statement (.rrcIydR d r) :=
  ⟨Nat.le_of_ble_eq_true rfl, Nat.le_of_ble_eq_true rfl⟩
theorem rlIyd (d : Byte) : Statement (.rlIyd d) :=
  ⟨Nat.le_of_ble_eq_true rfl, Nat.le_of_ble_eq_true rfl⟩
theorem rlIydR (d : Byte) (r : Reg8) : Statement (.rlIydR d r) :=
  ⟨Nat.le_of_ble_eq_true rfl, Nat.le_of_ble_eq_true rfl⟩
theorem rrIyd (d : Byte) : Statement (.rrIyd d) :=
  ⟨Nat.le_of_ble_eq_true rfl, Nat.le_of_ble_eq_true rfl⟩
theorem rrIydR (d : Byte) (r : Reg8) : Statement (.rrIydR d r) :=
  ⟨Nat.le_of_ble_eq_true rfl, Nat.le_of_ble_eq_true rfl⟩
theorem slaIyd (d : Byte) : Statement (.slaIyd d) :=
  ⟨Nat.le_of_ble_eq_true rfl, Nat.le_of_ble_eq_true rfl⟩
theorem slaIydR (d : Byte) (r : Reg8) : Statement (.slaIydR d r) :=
  ⟨Nat.le_of_ble_eq_true rfl, Nat.le_of_ble_eq_true rfl⟩
theorem sraIyd (d : Byte) : Statement (.sraIyd d) :=
  ⟨Nat.le_of_ble_eq_true rfl, Nat.le_of_ble_eq_true rfl⟩
theorem sraIydR (d : Byte) (r : Reg8) : Statement (.sraIydR d r) :=
  ⟨Nat.le_of_ble_eq_true rfl, Nat.le_of_ble_eq_true rfl⟩
theorem sllIyd (d : Byte) : Statement (.sllIyd d) :=
  ⟨Nat.le_of_ble_eq_true rfl, Nat.le_of_ble_eq_true rfl⟩
theorem sllIydR (d : Byte) (r : Reg8) : Statement (.sllIydR d r) :=
  ⟨Nat.le_of_ble_eq_true rfl, Nat.le_of_ble_eq_true rfl⟩
theorem srlIyd (d : Byte) : Statement (.srlIyd d) :=
  ⟨Nat.le_of_ble_eq_true rfl, Nat.le_of_ble_eq_true rfl⟩
theorem srlIydR (d : Byte) (r : Reg8) : Statement (.srlIydR d r) :=
  ⟨Nat.le_of_ble_eq_true rfl, Nat.le_of_ble_eq_true rfl⟩
theorem bitIyd (b : Code3) (d : Byte) (z : Code3) : Statement (.bitIyd b d z) :=
  ⟨Nat.le_of_ble_eq_true rfl, Nat.le_of_ble_eq_true rfl⟩
theorem resIyd (b : Code3) (d : Byte) : Statement (.resIyd b d) :=
  ⟨Nat.le_of_ble_eq_true rfl, Nat.le_of_ble_eq_true rfl⟩
theorem resIydR (b : Code3) (d : Byte) (r : Reg8) : Statement (.resIydR b d r) :=
  ⟨Nat.le_of_ble_eq_true rfl, Nat.le_of_ble_eq_true rfl⟩
theorem setIyd (b : Code3) (d : Byte) : Statement (.setIyd b d) :=
  ⟨Nat.le_of_ble_eq_true rfl, Nat.le_of_ble_eq_true rfl⟩
theorem setIydR (b : Code3) (d : Byte) (r : Reg8) : Statement (.setIydR b d r) :=
  ⟨Nat.le_of_ble_eq_true rfl, Nat.le_of_ble_eq_true rfl⟩
theorem incHl : Statement .incHl :=
  ⟨Nat.le_of_ble_eq_true rfl, Nat.le_of_ble_eq_true rfl⟩
theorem decHl : Statement .decHl :=
  ⟨Nat.le_of_ble_eq_true rfl, Nat.le_of_ble_eq_true rfl⟩
theorem addAHl : Statement .addAHl :=
  ⟨Nat.le_of_ble_eq_true rfl, Nat.le_of_ble_eq_true rfl⟩
theorem adcAHl : Statement .adcAHl :=
  ⟨Nat.le_of_ble_eq_true rfl, Nat.le_of_ble_eq_true rfl⟩
theorem subHl : Statement .subHl :=
  ⟨Nat.le_of_ble_eq_true rfl, Nat.le_of_ble_eq_true rfl⟩
theorem sbcAHl : Statement .sbcAHl :=
  ⟨Nat.le_of_ble_eq_true rfl, Nat.le_of_ble_eq_true rfl⟩
theorem andHl : Statement .andHl :=
  ⟨Nat.le_of_ble_eq_true rfl, Nat.le_of_ble_eq_true rfl⟩
theorem xorHl : Statement .xorHl :=
  ⟨Nat.le_of_ble_eq_true rfl, Nat.le_of_ble_eq_true rfl⟩
theorem orHl : Statement .orHl :=
  ⟨Nat.le_of_ble_eq_true rfl, Nat.le_of_ble_eq_true rfl⟩
theorem cpHl : Statement .cpHl :=
  ⟨Nat.le_of_ble_eq_true rfl, Nat.le_of_ble_eq_true rfl⟩
theorem jpHl : Statement .jpHl :=
  ⟨Nat.le_of_ble_eq_true rfl, Nat.le_of_ble_eq_true rfl⟩
theorem ldSpHl : Statement .ldSpHl :=
  ⟨Nat.le_of_ble_eq_true rfl, Nat.le_of_ble_eq_true rfl⟩
theorem prefixCb : Statement .prefixCb :=
  ⟨Nat.le_of_ble_eq_true rfl, Nat.le_of_ble_eq_true rfl⟩
theorem exSpHl : Statement .exSpHl :=
  ⟨Nat.le_of_ble_eq_true rfl, Nat.le_of_ble_eq_true rfl⟩
theorem prefixDd : Statement .prefixDd :=
  ⟨Nat.le_of_ble_eq_true rfl, Nat.le_of_ble_eq_true rfl⟩
theorem prefixEd : Statement .prefixEd :=
  ⟨Nat.le_of_ble_eq_true rfl, Nat.le_of_ble_eq_true rfl⟩
theorem prefixFd : Statement .prefixFd :=
  ⟨Nat.le_of_ble_eq_true rfl, Nat.le_of_ble_eq_true rfl⟩
theorem rlcHl : Statement .rlcHl :=
  ⟨Nat.le_of_ble_eq_true rfl, Nat.le_of_ble_eq_true rfl⟩
theorem rrcHl : Statement .rrcHl :=
  ⟨Nat.le_of_ble_eq_true rfl, Nat.le_of_ble_eq_true rfl⟩
theorem rlHl : Statement .rlHl :=
  ⟨Nat.le_of_ble_eq_true rfl, Nat.le_of_ble_eq_true rfl⟩
theorem rrHl : Statement .rrHl :=
  ⟨Nat.le_of_ble_eq_true rfl, Nat.le_of_ble_eq_true rfl⟩
theorem slaHl : Statement .slaHl :=
  ⟨Nat.le_of_ble_eq_true rfl, Nat.le_of_ble_eq_true rfl⟩
theorem sraHl : Statement .sraHl :=
  ⟨Nat.le_of_ble_eq_true rfl, Nat.le_of_ble_eq_true rfl⟩
theorem sllHl : Statement .sllHl :=
  ⟨Nat.le_of_ble_eq_true rfl, Nat.le_of_ble_eq_true rfl⟩
theorem srlHl : Statement .srlHl :=
  ⟨Nat.le_of_ble_eq_true rfl, Nat.le_of_ble_eq_true rfl⟩
theorem inC : Statement .inC :=
  ⟨Nat.le_of_ble_eq_true rfl, Nat.le_of_ble_eq_true rfl⟩
theorem outC0 : Statement .outC0 :=
  ⟨Nat.le_of_ble_eq_true rfl, Nat.le_of_ble_eq_true rfl⟩
theorem reti : Statement .reti :=
  ⟨Nat.le_of_ble_eq_true rfl, Nat.le_of_ble_eq_true rfl⟩
theorem ldIA : Statement .ldIA :=
  ⟨Nat.le_of_ble_eq_true rfl, Nat.le_of_ble_eq_true rfl⟩
theorem ldRA : Statement .ldRA :=
  ⟨Nat.le_of_ble_eq_true rfl, Nat.le_of_ble_eq_true rfl⟩
theorem ldAI : Statement .ldAI :=
  ⟨Nat.le_of_ble_eq_true rfl, Nat.le_of_ble_eq_true rfl⟩
theorem ldAR : Statement .ldAR :=
  ⟨Nat.le_of_ble_eq_true rfl, Nat.le_of_ble_eq_true rfl⟩
theorem rrd : Statement .rrd :=
  ⟨Nat.le_of_ble_eq_true rfl, Nat.le_of_ble_eq_true rfl⟩
theorem rld : Statement .rld :=
  ⟨Nat.le_of_ble_eq_true rfl, Nat.le_of_ble_eq_true rfl⟩
theorem ldi : Statement .ldi :=
  ⟨Nat.le_of_ble_eq_true rfl, Nat.le_of_ble_eq_true rfl⟩
theorem cpi : Statement .cpi :=
  ⟨Nat.le_of_ble_eq_true rfl, Nat.le_of_ble_eq_true rfl⟩
theorem ini : Statement .ini :=
  ⟨Nat.le_of_ble_eq_true rfl, Nat.le_of_ble_eq_true rfl⟩
theorem outi : Statement .outi :=
  ⟨Nat.le_of_ble_eq_true rfl, Nat.le_of_ble_eq_true rfl⟩
theorem ldd : Statement .ldd :=
  ⟨Nat.le_of_ble_eq_true rfl, Nat.le_of_ble_eq_true rfl⟩
theorem cpd : Statement .cpd :=
  ⟨Nat.le_of_ble_eq_true rfl, Nat.le_of_ble_eq_true rfl⟩
theorem ind : Statement .ind :=
  ⟨Nat.le_of_ble_eq_true rfl, Nat.le_of_ble_eq_true rfl⟩
theorem outd : Statement .outd :=
  ⟨Nat.le_of_ble_eq_true rfl, Nat.le_of_ble_eq_true rfl⟩
theorem ldir : Statement .ldir :=
  ⟨Nat.le_of_ble_eq_true rfl, Nat.le_of_ble_eq_true rfl⟩
theorem cpir : Statement .cpir :=
  ⟨Nat.le_of_ble_eq_true rfl, Nat.le_of_ble_eq_true rfl⟩
theorem inir : Statement .inir :=
  ⟨Nat.le_of_ble_eq_true rfl, Nat.le_of_ble_eq_true rfl⟩
theorem otir : Statement .otir :=
  ⟨Nat.le_of_ble_eq_true rfl, Nat.le_of_ble_eq_true rfl⟩
theorem lddr : Statement .lddr :=
  ⟨Nat.le_of_ble_eq_true rfl, Nat.le_of_ble_eq_true rfl⟩
theorem cpdr : Statement .cpdr :=
  ⟨Nat.le_of_ble_eq_true rfl, Nat.le_of_ble_eq_true rfl⟩
theorem indr : Statement .indr :=
  ⟨Nat.le_of_ble_eq_true rfl, Nat.le_of_ble_eq_true rfl⟩
theorem otdr : Statement .otdr :=
  ⟨Nat.le_of_ble_eq_true rfl, Nat.le_of_ble_eq_true rfl⟩
theorem incIx : Statement .incIx :=
  ⟨Nat.le_of_ble_eq_true rfl, Nat.le_of_ble_eq_true rfl⟩
theorem decIx : Statement .decIx :=
  ⟨Nat.le_of_ble_eq_true rfl, Nat.le_of_ble_eq_true rfl⟩
theorem incIxh : Statement .incIxh :=
  ⟨Nat.le_of_ble_eq_true rfl, Nat.le_of_ble_eq_true rfl⟩
theorem decIxh : Statement .decIxh :=
  ⟨Nat.le_of_ble_eq_true rfl, Nat.le_of_ble_eq_true rfl⟩
theorem incIxl : Statement .incIxl :=
  ⟨Nat.le_of_ble_eq_true rfl, Nat.le_of_ble_eq_true rfl⟩
theorem decIxl : Statement .decIxl :=
  ⟨Nat.le_of_ble_eq_true rfl, Nat.le_of_ble_eq_true rfl⟩
theorem addAIxh : Statement .addAIxh :=
  ⟨Nat.le_of_ble_eq_true rfl, Nat.le_of_ble_eq_true rfl⟩
theorem addAIxl : Statement .addAIxl :=
  ⟨Nat.le_of_ble_eq_true rfl, Nat.le_of_ble_eq_true rfl⟩
theorem adcAIxh : Statement .adcAIxh :=
  ⟨Nat.le_of_ble_eq_true rfl, Nat.le_of_ble_eq_true rfl⟩
theorem adcAIxl : Statement .adcAIxl :=
  ⟨Nat.le_of_ble_eq_true rfl, Nat.le_of_ble_eq_true rfl⟩
theorem subIxh : Statement .subIxh :=
  ⟨Nat.le_of_ble_eq_true rfl, Nat.le_of_ble_eq_true rfl⟩
theorem subIxl : Statement .subIxl :=
  ⟨Nat.le_of_ble_eq_true rfl, Nat.le_of_ble_eq_true rfl⟩
theorem sbcAIxh : Statement .sbcAIxh :=
  ⟨Nat.le_of_ble_eq_true rfl, Nat.le_of_ble_eq_true rfl⟩
theorem sbcAIxl : Statement .sbcAIxl :=
  ⟨Nat.le_of_ble_eq_true rfl, Nat.le_of_ble_eq_true rfl⟩
theorem andIxh : Statement .andIxh :=
  ⟨Nat.le_of_ble_eq_true rfl, Nat.le_of_ble_eq_true rfl⟩
theorem andIxl : Statement .andIxl :=
  ⟨Nat.le_of_ble_eq_true rfl, Nat.le_of_ble_eq_true rfl⟩
theorem xorIxh : Statement .xorIxh :=
  ⟨Nat.le_of_ble_eq_true rfl, Nat.le_of_ble_eq_true rfl⟩
theorem xorIxl : Statement .xorIxl :=
  ⟨Nat.le_of_ble_eq_true rfl, Nat.le_of_ble_eq_true rfl⟩
theorem orIxh : Statement .orIxh :=
  ⟨Nat.le_of_ble_eq_true rfl, Nat.le_of_ble_eq_true rfl⟩
theorem orIxl : Statement .orIxl :=
  ⟨Nat.le_of_ble_eq_true rfl, Nat.le_of_ble_eq_true rfl⟩
theorem cpIxh : Statement .cpIxh :=
  ⟨Nat.le_of_ble_eq_true rfl, Nat.le_of_ble_eq_true rfl⟩
theorem cpIxl : Statement .cpIxl :=
  ⟨Nat.le_of_ble_eq_true rfl, Nat.le_of_ble_eq_true rfl⟩
theorem popIx : Statement .popIx :=
  ⟨Nat.le_of_ble_eq_true rfl, Nat.le_of_ble_eq_true rfl⟩
theorem pushIx : Statement .pushIx :=
  ⟨Nat.le_of_ble_eq_true rfl, Nat.le_of_ble_eq_true rfl⟩
theorem exSpIx : Statement .exSpIx :=
  ⟨Nat.le_of_ble_eq_true rfl, Nat.le_of_ble_eq_true rfl⟩
theorem jpIx : Statement .jpIx :=
  ⟨Nat.le_of_ble_eq_true rfl, Nat.le_of_ble_eq_true rfl⟩
theorem ldSpIx : Statement .ldSpIx :=
  ⟨Nat.le_of_ble_eq_true rfl, Nat.le_of_ble_eq_true rfl⟩
theorem prefixDdCb : Statement .prefixDdCb :=
  ⟨Nat.le_of_ble_eq_true rfl, Nat.le_of_ble_eq_true rfl⟩
theorem aloneDdDd : Statement .aloneDdDd :=
  ⟨Nat.le_of_ble_eq_true rfl, Nat.le_of_ble_eq_true rfl⟩
theorem aloneDdEd : Statement .aloneDdEd :=
  ⟨Nat.le_of_ble_eq_true rfl, Nat.le_of_ble_eq_true rfl⟩
theorem aloneDdFd : Statement .aloneDdFd :=
  ⟨Nat.le_of_ble_eq_true rfl, Nat.le_of_ble_eq_true rfl⟩
theorem incIy : Statement .incIy :=
  ⟨Nat.le_of_ble_eq_true rfl, Nat.le_of_ble_eq_true rfl⟩
theorem decIy : Statement .decIy :=
  ⟨Nat.le_of_ble_eq_true rfl, Nat.le_of_ble_eq_true rfl⟩
theorem incIyh : Statement .incIyh :=
  ⟨Nat.le_of_ble_eq_true rfl, Nat.le_of_ble_eq_true rfl⟩
theorem decIyh : Statement .decIyh :=
  ⟨Nat.le_of_ble_eq_true rfl, Nat.le_of_ble_eq_true rfl⟩
theorem incIyl : Statement .incIyl :=
  ⟨Nat.le_of_ble_eq_true rfl, Nat.le_of_ble_eq_true rfl⟩
theorem decIyl : Statement .decIyl :=
  ⟨Nat.le_of_ble_eq_true rfl, Nat.le_of_ble_eq_true rfl⟩
theorem addAIyh : Statement .addAIyh :=
  ⟨Nat.le_of_ble_eq_true rfl, Nat.le_of_ble_eq_true rfl⟩
theorem addAIyl : Statement .addAIyl :=
  ⟨Nat.le_of_ble_eq_true rfl, Nat.le_of_ble_eq_true rfl⟩
theorem adcAIyh : Statement .adcAIyh :=
  ⟨Nat.le_of_ble_eq_true rfl, Nat.le_of_ble_eq_true rfl⟩
theorem adcAIyl : Statement .adcAIyl :=
  ⟨Nat.le_of_ble_eq_true rfl, Nat.le_of_ble_eq_true rfl⟩
theorem subIyh : Statement .subIyh :=
  ⟨Nat.le_of_ble_eq_true rfl, Nat.le_of_ble_eq_true rfl⟩
theorem subIyl : Statement .subIyl :=
  ⟨Nat.le_of_ble_eq_true rfl, Nat.le_of_ble_eq_true rfl⟩
theorem sbcAIyh : Statement .sbcAIyh :=
  ⟨Nat.le_of_ble_eq_true rfl, Nat.le_of_ble_eq_true rfl⟩
theorem sbcAIyl : Statement .sbcAIyl :=
  ⟨Nat.le_of_ble_eq_true rfl, Nat.le_of_ble_eq_true rfl⟩
theorem andIyh : Statement .andIyh :=
  ⟨Nat.le_of_ble_eq_true rfl, Nat.le_of_ble_eq_true rfl⟩
theorem andIyl : Statement .andIyl :=
  ⟨Nat.le_of_ble_eq_true rfl, Nat.le_of_ble_eq_true rfl⟩
theorem xorIyh : Statement .xorIyh :=
  ⟨Nat.le_of_ble_eq_true rfl, Nat.le_of_ble_eq_true rfl⟩
theorem xorIyl : Statement .xorIyl :=
  ⟨Nat.le_of_ble_eq_true rfl, Nat.le_of_ble_eq_true rfl⟩
theorem orIyh : Statement .orIyh :=
  ⟨Nat.le_of_ble_eq_true rfl, Nat.le_of_ble_eq_true rfl⟩
theorem orIyl : Statement .orIyl :=
  ⟨Nat.le_of_ble_eq_true rfl, Nat.le_of_ble_eq_true rfl⟩
theorem cpIyh : Statement .cpIyh :=
  ⟨Nat.le_of_ble_eq_true rfl, Nat.le_of_ble_eq_true rfl⟩
theorem cpIyl : Statement .cpIyl :=
  ⟨Nat.le_of_ble_eq_true rfl, Nat.le_of_ble_eq_true rfl⟩
theorem popIy : Statement .popIy :=
  ⟨Nat.le_of_ble_eq_true rfl, Nat.le_of_ble_eq_true rfl⟩
theorem pushIy : Statement .pushIy :=
  ⟨Nat.le_of_ble_eq_true rfl, Nat.le_of_ble_eq_true rfl⟩
theorem exSpIy : Statement .exSpIy :=
  ⟨Nat.le_of_ble_eq_true rfl, Nat.le_of_ble_eq_true rfl⟩
theorem jpIy : Statement .jpIy :=
  ⟨Nat.le_of_ble_eq_true rfl, Nat.le_of_ble_eq_true rfl⟩
theorem ldSpIy : Statement .ldSpIy :=
  ⟨Nat.le_of_ble_eq_true rfl, Nat.le_of_ble_eq_true rfl⟩
theorem prefixFdCb : Statement .prefixFdCb :=
  ⟨Nat.le_of_ble_eq_true rfl, Nat.le_of_ble_eq_true rfl⟩
theorem aloneFdDd : Statement .aloneFdDd :=
  ⟨Nat.le_of_ble_eq_true rfl, Nat.le_of_ble_eq_true rfl⟩
theorem aloneFdEd : Statement .aloneFdEd :=
  ⟨Nat.le_of_ble_eq_true rfl, Nat.le_of_ble_eq_true rfl⟩
theorem aloneFdFd : Statement .aloneFdFd :=
  ⟨Nat.le_of_ble_eq_true rfl, Nat.le_of_ble_eq_true rfl⟩

end Sys2Proof.Laws.EncodedLength
end

