-- ==== Sys2Proof/Laws/Step.lean ====
section
/-! SUPPORT. What a step can do, said once: the CPU step, the frame accounting, the compose, the audio flush. -/

namespace Sys2Proof.Machine

/-! ### The step -/

/-- A step that goes on is a CPU step and the accounting after it (R520). -/
theorem step_next_iff (s t : State) : step s = .next t ↔ ∃ u, s.cpuStep = .next u ∧ t = u.account := by
  unfold step State.machineStep
  cases s.cpuStep with
  | next u => simp [eq_comm]
  | fault r => simp
  | refused r => simp

/-- A CPU step that goes on is the halted step, or one instruction after its fetch (R320, R321). -/
theorem State.cpuStep_next_iff (s u : State) :
    s.cpuStep = .next u ↔
      (s.cpu.halted = true ∧ u = s.haltedStep) ∨
      (s.cpu.halted = false ∧ ∃ t, exec s.fetchInstr (s.fetched s.fetchInstr) = .next t ∧ u = t.endStep s.fetchInstr) := by
  unfold State.cpuStep
  cases h : s.cpu.halted with
  | true => simp [eq_comm]
  | false =>
    simp only [Bool.false_eq_true, if_false, false_and, false_or, true_and]
    cases exec s.fetchInstr (s.fetched s.fetchInstr) with
    | next t => simp [eq_comm]
    | fault r => simp
    | refused r => simp

/-! ### The compose (R570, R585, R586) -/

/-- A compose changes the ScreenBuffer only (R570). -/
theorem State.compose_rest (s : State) : ∃ m, s.compose = { s with screen := m } := ⟨_, rfl⟩

@[simp] theorem State.compose_cpu (s : State) : s.compose.cpu = s.cpu := by
  obtain ⟨m, e⟩ := s.compose_rest
  rw [e]
@[simp] theorem State.compose_bus (s : State) : s.compose.bus = s.bus := by
  obtain ⟨m, e⟩ := s.compose_rest
  rw [e]
@[simp] theorem State.compose_audio (s : State) : s.compose.audio = s.audio := by
  obtain ⟨m, e⟩ := s.compose_rest
  rw [e]
@[simp] theorem State.compose_sched (s : State) : s.compose.sched = s.sched := by
  obtain ⟨m, e⟩ := s.compose_rest
  rw [e]
@[simp] theorem State.compose_roms (s : State) : s.compose.roms = s.roms := by
  obtain ⟨m, e⟩ := s.compose_rest
  rw [e]
@[simp] theorem State.compose_draws (s : State) : s.compose.draws = s.draws := by
  obtain ⟨m, e⟩ := s.compose_rest
  rw [e]
@[simp] theorem State.compose_cycles (s : State) : s.compose.cycles = s.cycles := by
  obtain ⟨m, e⟩ := s.compose_rest
  rw [e]
@[simp] theorem State.compose_table (s : State) : s.compose.table = s.table := by
  obtain ⟨m, e⟩ := s.compose_rest
  rw [e]

/-- Each byte of the ScreenBuffer after a compose (R586). -/
theorem State.compose_read (s : State) (o : Nat) (h : o < 193536) : s.compose.screen.read o = s.pictureByte o := by
  rw [State.compose_screen]
  exact Memory.read_tabulate _ _ _ h

/-- The pixel at column `x`, row `y` of the ScreenBuffer after a compose is that of the finished picture (R586). -/
theorem State.compose_screenPixel (s : State) (x y : Nat) (hx : x < 224) (hy : y < 288) :
    s.compose.screenPixel x y = s.picturePixel x y := by
  have key : ∀ c, c < 3 →
      s.compose.screen.read (3 * (224 * y + x) + c) = (s.picturePixel x y).channel c := by
    intro c hc
    rw [State.compose_read _ _ (by omega), State.pictureByte,
      show (3 * (224 * y + x) + c) / 3 = 224 * y + x by omega,
      show (3 * (224 * y + x) + c) % 3 = c by omega,
      show (224 * y + x) % 224 = x by omega, show (224 * y + x) / 224 = y by omega]
  have h0 := key 0 (by decide)
  have h1 := key 1 (by decide)
  have h2 := key 2 (by decide)
  rw [Nat.add_zero] at h0
  show Rgb.mk _ _ _ = _
  rw [h0, h1, h2]
  rfl

/-! ### The audio flush (R523, R610) -/

/-- One sample changes the phases and the samples pushed, nothing else. -/
theorem State.pushSample_eq (s : State) :
    s.pushSample =
      { s with audio := { s.audio with
          ch0 := s.audio.ch0.advance, ch1 := s.audio.ch1.advance, ch2 := s.audio.ch2.advance
          pushed := s.audio.pushed ++ [BitVec.ofInt 16 (s.audio.advance.sample s.roms s.bus.soundEnable)] } } := rfl

@[simp] theorem State.pushSamples_zero (s : State) : s.pushSamples 0 = s := rfl
@[simp] theorem State.pushSamples_succ (s : State) (n : Nat) : s.pushSamples (n + 1) = s.pushSample.pushSamples n := rfl

/-- Any number of samples changes only the audio part. -/
theorem State.pushSamples_eq (s : State) (n : Nat) : s.pushSamples n = { s with audio := (s.pushSamples n).audio } := by
  induction n generalizing s with
  | zero => rfl
  | succ k ih =>
    rw [State.pushSamples_succ, ih, State.pushSample_eq]

/-- A phase step keeps the registers of its channel. -/
theorem Channel.advance_eq (c : Channel) : c.advance = { c with acc := c.advance.acc } := by
  unfold Channel.advance
  split <;> rfl

/-- The phase after a step, in numbers. -/
theorem Channel.advance_acc (c : Channel) :
    c.advance.acc.toNat = if c.freq = 0 then c.acc.toNat else (c.acc.toNat + c.freq.toNat) % 1048576 := by
  unfold Channel.advance
  split_ifs
  · rfl
  · exact BitVec.toNat_add _ _

/-- Samples keep the absent nibbles 0 (R601). -/
theorem State.pushSamples_nibbles (s : State) (n : Nat) (h : s.audio.NibblesAbsent) :
    (s.pushSamples n).audio.NibblesAbsent := by
  induction n generalizing s with
  | zero => exact h
  | succ k ih =>
    refine ih _ ⟨?_, ?_⟩
    · rw [State.pushSample_eq, Channel.advance_eq s.audio.ch1]; exact h.1
    · rw [State.pushSample_eq, Channel.advance_eq s.audio.ch2]; exact h.2

/-! ### The frame accounting (R520, R523) -/

/-- Below F the frame counter grows and nothing else happens. -/
theorem State.account_below (s : State) (h : s.sched.frameCyc + s.cycles < 51200) :
    s.account = { s with sched := { s.sched with frameCyc := s.sched.frameCyc + s.cycles } } := by
  unfold State.account
  rw [if_neg (by show ¬ 51200 ≤ _; omega)]

/-- At F the excess is carried and the frame boundary happens. -/
theorem State.account_at (s : State) (h : 51200 ≤ s.sched.frameCyc + s.cycles) :
    s.account =
      let t := { s with sched := { s.sched with frameCyc := s.sched.frameCyc + s.cycles - 51200 } }
      { t.frameBoundary.1 with
        sched := { t.frameBoundary.1.sched with frameCyc := t.frameBoundary.1.sched.frameCyc + t.deliver.2 }
        cycles := s.cycles + t.deliver.2 } := by
  unfold State.account
  rw [if_pos (by show 51200 ≤ _; omega)]
  rfl

/-- The cost of an interrupt entry (R511 to R513, R522). -/
theorem State.raiseInterrupt_cost (s : State) (v : Byte) :
    (s.raiseInterrupt v).2 = 0 ∨ (s.raiseInterrupt v).2 = 13 ∨ (s.raiseInterrupt v).2 = 19 := by
  by_cases h : s.cpu.iff1 = false ∨ s.cpu.eiDelay = true
  · rw [State.raiseInterrupt_refused s v h]
    exact Or.inl rfl
  · unfold State.raiseInterrupt State.raiseInterruptWith
    rw [if_neg h]
    simp only [State.intTarget, Config.intModePolicy]
    split
    · exact Or.inr (Or.inl rfl)
    · exact Or.inr (Or.inl rfl)
    · exact Or.inr (Or.inr rfl)

/-- An interrupt entry changes the CPU and what its two bus writes change. -/
theorem State.raiseInterrupt_rest (s : State) (v : Byte) :
    (s.raiseInterrupt v).1.screen = s.screen ∧ (s.raiseInterrupt v).1.sched = s.sched ∧
      (s.raiseInterrupt v).1.roms = s.roms ∧ (s.raiseInterrupt v).1.draws = s.draws ∧
      (s.raiseInterrupt v).1.cycles = s.cycles ∧ (s.raiseInterrupt v).1.table = s.table := by
  by_cases h : s.cpu.iff1 = false ∨ s.cpu.eiDelay = true
  · rw [State.raiseInterrupt_refused s v h]
    exact ⟨rfl, rfl, rfl, rfl, rfl, rfl⟩
  · simp only [not_or, Bool.not_eq_false, Bool.not_eq_true] at h
    rw [State.raiseInterrupt_accepted s v h.1 h.2]
    simp

end Sys2Proof.Machine
end

