-- ==== Sys2Proof/Tests/Slice0.lean ====
section
/-! SUPPORT. The model's own tests: ill-formed terms are refused, words written out from the encodings decode, single
steps against the vectors of spec/95, and a witness that the hypotheses of each statement can be met. -/

namespace Sys2Proof.Tests

open Sys2Proof Sys2Proof.Machine

/-- The CPU that a vector of spec/95 starts from: every register 0 but `SP` and `PC`. -/
def start : Cpu := { Cpu.reset with sp := 0x4FF0, pc := 0x0100 }

/-- The ROM image with these bytes from offset `first` on, every other byte 0. -/
def imageAt (size first : Nat) (bytes : List Byte) : Rom size :=
  bytes.zipIdx.foldl (fun r x => r.write (first + x.2) x.1) (.blank _)

/-- The machine with these bytes in ROM at `PC` and these RAM cells, all else as after reset. -/
def placed (bytes : List Byte) (c : Cpu) (ram : Memory) : State :=
  { State.reset with
    cpu := c
    bus := { Bus.reset with ram := ram }
    roms := { Roms.none with prog := imageAt _ c.pc.toNat bytes } }

/-- The machine with another bus. -/
def withBus (s : State) (b : Bus) : State := { s with bus := b }

/-- What one step leaves of `f`. -/
def after {α : Type} (s : State) (f : State → α) : Option α :=
  match step s with
  | .next t => some (f t)
  | .fault _ => none
  | .refused _ => none

/-- Does each list of bytes, followed by zeros, decode to its instruction, and is that instruction well-formed? -/
def decodesTo (l : List (List Byte × Instr)) : Bool :=
  l.all (fun x => decide (decodeBytes ((x.1 ++ [0, 0, 0, 0]).take 4) = x.2) && wellFormed x.2)

/-! ### WellFormed refuses -/

/-- A prefixed register form admits neither `H` nor `L`: there they would be index halves (R150, R323). -/
theorem test_refuses_prefixed_h_and_l :
    wellFormed (.ldRR .dd .h .a) = false ∧ wellFormed (.ldRR .fd .a .l) = false ∧ wellFormed (.incR .dd .l) = false ∧
      wellFormed (.addAR .fd .h) = false := by decide

/-- A prefixed pair form does not admit `HL`: there it would be the index register (R150, R323). -/
theorem test_refuses_prefixed_hl :
    wellFormed (.ldDdNn .dd .hl 0) = false ∧ wellFormed (.incSs .fd .hl) = false ∧
      wellFormed (.pushQq .dd .hl) = false ∧ wellFormed (.popQq .fd .hl) = false := by decide

/-- A load from an index half goes to a plain register (R218). -/
theorem test_refuses_half_to_h_or_l :
    wellFormed (.ldRIxHalf .h .lo) = false ∧ wellFormed (.ldRIyHalf .l .hi) = false := by decide

/-- `ED 4D` is `RETI`, not a copy of `RETN` (R434, R435). -/
theorem test_refuses_retn_1 : wellFormed (.retn 1) = false := by decide

/-- The opcode field of `IM` tells which mode it is (R330). -/
theorem test_refuses_im_codes :
    wellFormed (.im0 2) = false ∧ wellFormed (.im1 3) = false ∧ wellFormed (.im2 0) = false := by decide

/-- An assigned ED opcode is no no-op (R166). -/
theorem test_refuses_assigned_ed : wellFormed (.nopEd 0xB0) = false ∧ wellFormed (.nopEd 0x44) = false := by decide

/-- A prefix is no instruction by itself (R143). -/
theorem test_refuses_bare_prefixes :
    wellFormed .prefixCb = false ∧ wellFormed .prefixEd = false ∧ wellFormed .prefixDd = false ∧
      wellFormed .prefixFd = false ∧ wellFormed .prefixDdCb = false ∧ wellFormed .prefixFdCb = false := by decide

/-! ### Words of the table -/

/-- 8-bit loads (spec/40): words written out from the encodings of the table. -/
theorem test_words_of_load8 : decodesTo [
   ([0x02], .ldBcA .none), ([0xDD, 0x02], .ldBcA .dd), ([0x12], .ldDeA .none), ([0xFD, 0x12], .ldDeA .fd),
   ([0x32, 0x12, 0x4C], .ldNnA .none 0x4C12), ([0xDD, 0x32, 0x12, 0x4C], .ldNnA .dd 0x4C12), ([0x0A], .ldABc .none),
   ([0xFD, 0x0A], .ldABc .fd), ([0x1A], .ldADe .none), ([0xDD, 0x1A], .ldADe .dd),
   ([0x3A, 0x12, 0x4C], .ldANn .none 0x4C12), ([0xFD, 0x3A, 0x12, 0x4C], .ldANn .fd 0x4C12),
   ([0x26, 0x3C], .ldRN .none .h 0x3C), ([0xDD, 0x16, 0x3C], .ldRN .dd .d 0x3C), ([0x36, 0x3C], .ldHlN 0x3C),
   ([0x67], .ldRR .none .h .a), ([0xFD, 0x53], .ldRR .fd .d .e), ([0x66], .ldRHl .h), ([0x74], .ldHlR .h),
   ([0xDD, 0x26, 0x3C], .ldIxhN 0x3C), ([0xDD, 0x2E, 0x3C], .ldIxlN 0x3C),
   ([0xDD, 0x36, 0x85, 0x3C], .ldIxdN 0x85 0x3C), ([0xDD, 0x66, 0x85], .ldRIxd .h 0x85),
   ([0xDD, 0x74, 0x85], .ldIxdR .h 0x85), ([0xDD, 0x6D], .ldIxHalfR .lo .xl), ([0xDD, 0x5D], .ldRIxHalf .e .lo),
   ([0xFD, 0x26, 0x3C], .ldIyhN 0x3C), ([0xFD, 0x2E, 0x3C], .ldIylN 0x3C),
   ([0xFD, 0x36, 0x85, 0x3C], .ldIydN 0x85 0x3C), ([0xFD, 0x66, 0x85], .ldRIyd .h 0x85),
   ([0xFD, 0x74, 0x85], .ldIydR .h 0x85), ([0xFD, 0x6D], .ldIyHalfR .lo .xl), ([0xFD, 0x5D], .ldRIyHalf .e .lo),
   ([0xED, 0x47], .ldIA), ([0xED, 0x4F], .ldRA), ([0xED, 0x57], .ldAI), ([0xED, 0x5F], .ldAR)] = true := by decide

/-- 16-bit loads (spec/41): words written out from the encodings of the table. -/
theorem test_words_of_load16 : decodesTo [
   ([0x31, 0x12, 0x4C], .ldDdNn .none .sp 0x4C12), ([0xDD, 0x31, 0x12, 0x4C], .ldDdNn .dd .sp 0x4C12),
   ([0x22, 0x12, 0x4C], .ldNnHl 0x4C12), ([0x2A, 0x12, 0x4C], .ldHlNn 0x4C12), ([0xF1], .popQq .none .af),
   ([0xFD, 0xF1], .popQq .fd .af), ([0xF5], .pushQq .none .af), ([0xDD, 0xF5], .pushQq .dd .af),
   ([0xED, 0x73, 0x12, 0x4C], .ldMemDd .sp 0x4C12), ([0xED, 0x7B, 0x12, 0x4C], .ldDdMem .sp 0x4C12),
   ([0xDD, 0x21, 0x12, 0x4C], .ldIxNn 0x4C12), ([0xDD, 0x22, 0x12, 0x4C], .ldMemIx 0x4C12),
   ([0xDD, 0x2A, 0x12, 0x4C], .ldIxMem 0x4C12), ([0xFD, 0x21, 0x12, 0x4C], .ldIyNn 0x4C12),
   ([0xFD, 0x22, 0x12, 0x4C], .ldMemIy 0x4C12), ([0xFD, 0x2A, 0x12, 0x4C], .ldIyMem 0x4C12), ([0xF9], .ldSpHl),
   ([0xDD, 0xE1], .popIx), ([0xDD, 0xE5], .pushIx), ([0xDD, 0xF9], .ldSpIx), ([0xFD, 0xE1], .popIy),
   ([0xFD, 0xE5], .pushIy), ([0xFD, 0xF9], .ldSpIy)] = true := by decide

/-- Exchanges and blocks (spec/42): words written out from the encodings of the table. -/
theorem test_words_of_exchange_block : decodesTo [
   ([0x08], .exAfAf .none), ([0xDD, 0x08], .exAfAf .dd), ([0xD9], .exx .none), ([0xFD, 0xD9], .exx .fd),
   ([0xEB], .exDeHl .none), ([0xDD, 0xEB], .exDeHl .dd), ([0xE3], .exSpHl), ([0xED, 0xA0], .ldi),
   ([0xED, 0xA1], .cpi), ([0xED, 0xA8], .ldd), ([0xED, 0xA9], .cpd), ([0xED, 0xB0], .ldir), ([0xED, 0xB1], .cpir),
   ([0xED, 0xB8], .lddr), ([0xED, 0xB9], .cpdr), ([0xDD, 0xE3], .exSpIx), ([0xFD, 0xE3], .exSpIy)] = true := by decide

/-- 8-bit arithmetic (spec/43): words written out from the encodings of the table. -/
theorem test_words_of_arith8_1 : decodesTo [
   ([0x24], .incR .none .h), ([0xDD, 0x14], .incR .dd .d), ([0x25], .decR .none .h), ([0xFD, 0x15], .decR .fd .d),
   ([0x84], .addAR .none .h), ([0xDD, 0x82], .addAR .dd .d), ([0xC6, 0x3C], .addAN .none 0x3C),
   ([0xFD, 0xC6, 0x3C], .addAN .fd 0x3C), ([0x8C], .adcAR .none .h), ([0xDD, 0x8A], .adcAR .dd .d),
   ([0xCE, 0x3C], .adcAN .none 0x3C), ([0xFD, 0xCE, 0x3C], .adcAN .fd 0x3C), ([0x94], .subR .none .h),
   ([0xDD, 0x92], .subR .dd .d), ([0xD6, 0x3C], .subN .none 0x3C), ([0xFD, 0xD6, 0x3C], .subN .fd 0x3C),
   ([0x9C], .sbcAR .none .h), ([0xDD, 0x9A], .sbcAR .dd .d), ([0xDE, 0x3C], .sbcAN .none 0x3C),
   ([0xFD, 0xDE, 0x3C], .sbcAN .fd 0x3C), ([0xA4], .andR .none .h), ([0xDD, 0xA2], .andR .dd .d),
   ([0xE6, 0x3C], .andN .none 0x3C), ([0xFD, 0xE6, 0x3C], .andN .fd 0x3C), ([0xAC], .xorR .none .h),
   ([0xDD, 0xAA], .xorR .dd .d), ([0xEE, 0x3C], .xorN .none 0x3C), ([0xFD, 0xEE, 0x3C], .xorN .fd 0x3C),
   ([0xB4], .orR .none .h), ([0xDD, 0xB2], .orR .dd .d), ([0xF6, 0x3C], .orN .none 0x3C),
   ([0xFD, 0xF6, 0x3C], .orN .fd 0x3C), ([0xBC], .cpR .none .h), ([0xDD, 0xBA], .cpR .dd .d),
   ([0xFE, 0x3C], .cpN .none 0x3C), ([0xFD, 0xFE, 0x3C], .cpN .fd 0x3C), ([0xDD, 0x34, 0x85], .incIxd 0x85),
   ([0xDD, 0x35, 0x85], .decIxd 0x85), ([0xDD, 0x86, 0x85], .addAIxd 0x85), ([0xDD, 0x8E, 0x85], .adcAIxd 0x85),
   ([0xDD, 0x96, 0x85], .subIxd 0x85), ([0xDD, 0x9E, 0x85], .sbcAIxd 0x85), ([0xDD, 0xA6, 0x85], .andIxd 0x85),
   ([0xDD, 0xAE, 0x85], .xorIxd 0x85), ([0xDD, 0xB6, 0x85], .orIxd 0x85), ([0xDD, 0xBE, 0x85], .cpIxd 0x85),
   ([0xFD, 0x34, 0x85], .incIyd 0x85), ([0xFD, 0x35, 0x85], .decIyd 0x85), ([0xFD, 0x86, 0x85], .addAIyd 0x85),
   ([0xFD, 0x8E, 0x85], .adcAIyd 0x85)] = true := by decide

/-- 8-bit arithmetic (spec/43): words written out from the encodings of the table. -/
theorem test_words_of_arith8_2 : decodesTo [
   ([0xFD, 0x96, 0x85], .subIyd 0x85), ([0xFD, 0x9E, 0x85], .sbcAIyd 0x85), ([0xFD, 0xA6, 0x85], .andIyd 0x85),
   ([0xFD, 0xAE, 0x85], .xorIyd 0x85), ([0xFD, 0xB6, 0x85], .orIyd 0x85), ([0xFD, 0xBE, 0x85], .cpIyd 0x85),
   ([0x34], .incHl), ([0x35], .decHl), ([0x86], .addAHl), ([0x8E], .adcAHl), ([0x96], .subHl), ([0x9E], .sbcAHl),
   ([0xA6], .andHl), ([0xAE], .xorHl), ([0xB6], .orHl), ([0xBE], .cpHl), ([0xDD, 0x24], .incIxh),
   ([0xDD, 0x25], .decIxh), ([0xDD, 0x2C], .incIxl), ([0xDD, 0x2D], .decIxl), ([0xDD, 0x84], .addAIxh),
   ([0xDD, 0x85], .addAIxl), ([0xDD, 0x8C], .adcAIxh), ([0xDD, 0x8D], .adcAIxl), ([0xDD, 0x94], .subIxh),
   ([0xDD, 0x95], .subIxl), ([0xDD, 0x9C], .sbcAIxh), ([0xDD, 0x9D], .sbcAIxl), ([0xDD, 0xA4], .andIxh),
   ([0xDD, 0xA5], .andIxl), ([0xDD, 0xAC], .xorIxh), ([0xDD, 0xAD], .xorIxl), ([0xDD, 0xB4], .orIxh),
   ([0xDD, 0xB5], .orIxl), ([0xDD, 0xBC], .cpIxh), ([0xDD, 0xBD], .cpIxl), ([0xFD, 0x24], .incIyh),
   ([0xFD, 0x25], .decIyh), ([0xFD, 0x2C], .incIyl), ([0xFD, 0x2D], .decIyl), ([0xFD, 0x84], .addAIyh),
   ([0xFD, 0x85], .addAIyl), ([0xFD, 0x8C], .adcAIyh), ([0xFD, 0x8D], .adcAIyl), ([0xFD, 0x94], .subIyh),
   ([0xFD, 0x95], .subIyl), ([0xFD, 0x9C], .sbcAIyh), ([0xFD, 0x9D], .sbcAIyl), ([0xFD, 0xA4], .andIyh),
   ([0xFD, 0xA5], .andIyl)] = true := by decide

/-- 8-bit arithmetic (spec/43): words written out from the encodings of the table. -/
theorem test_words_of_arith8_3 : decodesTo [
   ([0xFD, 0xAC], .xorIyh), ([0xFD, 0xAD], .xorIyl), ([0xFD, 0xB4], .orIyh), ([0xFD, 0xB5], .orIyl),
   ([0xFD, 0xBC], .cpIyh), ([0xFD, 0xBD], .cpIyl)] = true := by decide

/-- General arithmetic and control (spec/44): words written out from the encodings of the table. -/
theorem test_words_of_control : decodesTo [
   ([0x00], .nop .none), ([0xDD, 0x00], .nop .dd), ([0x27], .daa .none), ([0xFD, 0x27], .daa .fd),
   ([0x2F], .cpl .none), ([0xDD, 0x2F], .cpl .dd), ([0x37], .scf .none), ([0xFD, 0x37], .scf .fd),
   ([0x3F], .ccf .none), ([0xDD, 0x3F], .ccf .dd), ([0x76], .halt .none), ([0xFD, 0x76], .halt .fd),
   ([0xF3], .di .none), ([0xDD, 0xF3], .di .dd), ([0xFB], .ei .none), ([0xFD, 0xFB], .ei .fd),
   ([0xED, 0x54], .neg 2), ([0xED, 0x66], .im0 4), ([0xED, 0x76], .im1 6), ([0xED, 0x7E], .im2 7),
   ([0xED, 0x31], .nopEd 0x31), ([0xDD, 0xDD], .aloneDdDd), ([0xDD, 0xED], .aloneDdEd), ([0xDD, 0xFD], .aloneDdFd),
   ([0xFD, 0xDD], .aloneFdDd), ([0xFD, 0xED], .aloneFdEd), ([0xFD, 0xFD], .aloneFdFd)] = true := by decide

/-- 16-bit arithmetic (spec/45): words written out from the encodings of the table. -/
theorem test_words_of_arith16 : decodesTo [
   ([0x39], .addHlSs .sp), ([0x33], .incSs .none .sp), ([0xDD, 0x33], .incSs .dd .sp), ([0x3B], .decSs .none .sp),
   ([0xFD, 0x1B], .decSs .fd .de), ([0xED, 0x72], .sbcHlSs .sp), ([0xED, 0x7A], .adcHlSs .sp),
   ([0xDD, 0x29], .addIxPp .ii), ([0xFD, 0x29], .addIyPp .ii), ([0xDD, 0x23], .incIx), ([0xDD, 0x2B], .decIx),
   ([0xFD, 0x23], .incIy), ([0xFD, 0x2B], .decIy)] = true := by decide

/-- Rotates and shifts (spec/46): words written out from the encodings of the table. -/
theorem test_words_of_rotate_1 : decodesTo [
   ([0x07], .rlca .none), ([0xDD, 0x07], .rlca .dd), ([0x0F], .rrca .none), ([0xFD, 0x0F], .rrca .fd),
   ([0x17], .rla .none), ([0xDD, 0x17], .rla .dd), ([0x1F], .rra .none), ([0xFD, 0x1F], .rra .fd),
   ([0xCB, 0x04], .rlcR .h), ([0xCB, 0x0C], .rrcR .h), ([0xCB, 0x14], .rlR .h), ([0xCB, 0x1C], .rrR .h),
   ([0xCB, 0x24], .slaR .h), ([0xCB, 0x2C], .sraR .h), ([0xCB, 0x34], .sllR .h), ([0xCB, 0x3C], .srlR .h),
   ([0xDD, 0xCB, 0x85, 0x06], .rlcIxd 0x85), ([0xDD, 0xCB, 0x85, 0x04], .rlcIxdR 0x85 .h),
   ([0xDD, 0xCB, 0x85, 0x0E], .rrcIxd 0x85), ([0xDD, 0xCB, 0x85, 0x0C], .rrcIxdR 0x85 .h),
   ([0xDD, 0xCB, 0x85, 0x16], .rlIxd 0x85), ([0xDD, 0xCB, 0x85, 0x14], .rlIxdR 0x85 .h),
   ([0xDD, 0xCB, 0x85, 0x1E], .rrIxd 0x85), ([0xDD, 0xCB, 0x85, 0x1C], .rrIxdR 0x85 .h),
   ([0xDD, 0xCB, 0x85, 0x26], .slaIxd 0x85), ([0xDD, 0xCB, 0x85, 0x24], .slaIxdR 0x85 .h),
   ([0xDD, 0xCB, 0x85, 0x2E], .sraIxd 0x85), ([0xDD, 0xCB, 0x85, 0x2C], .sraIxdR 0x85 .h),
   ([0xDD, 0xCB, 0x85, 0x36], .sllIxd 0x85), ([0xDD, 0xCB, 0x85, 0x34], .sllIxdR 0x85 .h),
   ([0xDD, 0xCB, 0x85, 0x3E], .srlIxd 0x85), ([0xDD, 0xCB, 0x85, 0x3C], .srlIxdR 0x85 .h),
   ([0xFD, 0xCB, 0x85, 0x06], .rlcIyd 0x85), ([0xFD, 0xCB, 0x85, 0x04], .rlcIydR 0x85 .h),
   ([0xFD, 0xCB, 0x85, 0x0E], .rrcIyd 0x85), ([0xFD, 0xCB, 0x85, 0x0C], .rrcIydR 0x85 .h),
   ([0xFD, 0xCB, 0x85, 0x16], .rlIyd 0x85), ([0xFD, 0xCB, 0x85, 0x14], .rlIydR 0x85 .h),
   ([0xFD, 0xCB, 0x85, 0x1E], .rrIyd 0x85), ([0xFD, 0xCB, 0x85, 0x1C], .rrIydR 0x85 .h),
   ([0xFD, 0xCB, 0x85, 0x26], .slaIyd 0x85), ([0xFD, 0xCB, 0x85, 0x24], .slaIydR 0x85 .h),
   ([0xFD, 0xCB, 0x85, 0x2E], .sraIyd 0x85), ([0xFD, 0xCB, 0x85, 0x2C], .sraIydR 0x85 .h),
   ([0xFD, 0xCB, 0x85, 0x36], .sllIyd 0x85), ([0xFD, 0xCB, 0x85, 0x34], .sllIydR 0x85 .h),
   ([0xFD, 0xCB, 0x85, 0x3E], .srlIyd 0x85), ([0xFD, 0xCB, 0x85, 0x3C], .srlIydR 0x85 .h), ([0xCB, 0x06], .rlcHl),
   ([0xCB, 0x0E], .rrcHl)] = true := by decide

/-- Rotates and shifts (spec/46): words written out from the encodings of the table. -/
theorem test_words_of_rotate_2 : decodesTo [
   ([0xCB, 0x16], .rlHl), ([0xCB, 0x1E], .rrHl), ([0xCB, 0x26], .slaHl), ([0xCB, 0x2E], .sraHl),
   ([0xCB, 0x36], .sllHl), ([0xCB, 0x3E], .srlHl), ([0xED, 0x67], .rrd), ([0xED, 0x6F], .rld)] = true := by decide

/-- Bits (spec/47): words written out from the encodings of the table. -/
theorem test_words_of_bit_ops : decodesTo [
   ([0xCB, 0x6C], .bitR 5 .h), ([0xCB, 0x6E], .bitHl 5), ([0xCB, 0xAC], .resR 5 .h), ([0xCB, 0xAE], .resHl 5),
   ([0xCB, 0xEC], .setR 5 .h), ([0xCB, 0xEE], .setHl 5), ([0xDD, 0xCB, 0x85, 0x6A], .bitIxd 5 0x85 2),
   ([0xDD, 0xCB, 0x85, 0xAE], .resIxd 5 0x85), ([0xDD, 0xCB, 0x85, 0xAC], .resIxdR 5 0x85 .h),
   ([0xDD, 0xCB, 0x85, 0xEE], .setIxd 5 0x85), ([0xDD, 0xCB, 0x85, 0xEC], .setIxdR 5 0x85 .h),
   ([0xFD, 0xCB, 0x85, 0x6A], .bitIyd 5 0x85 2), ([0xFD, 0xCB, 0x85, 0xAE], .resIyd 5 0x85),
   ([0xFD, 0xCB, 0x85, 0xAC], .resIydR 5 0x85 .h), ([0xFD, 0xCB, 0x85, 0xEE], .setIyd 5 0x85),
   ([0xFD, 0xCB, 0x85, 0xEC], .setIydR 5 0x85 .h)] = true := by decide

/-- Jumps, calls, returns (spec/48): words written out from the encodings of the table. -/
theorem test_words_of_jump : decodesTo [
   ([0x10, 0xFB], .djnz .none 0xFB), ([0xDD, 0x10, 0xFB], .djnz .dd 0xFB), ([0x18, 0xFB], .jrE .none 0xFB),
   ([0xFD, 0x18, 0xFB], .jrE .fd 0xFB), ([0x30, 0xFB], .jrCcE .none .nc 0xFB),
   ([0xDD, 0x30, 0xFB], .jrCcE .dd .nc 0xFB), ([0xE0], .retCc .none .po), ([0xFD, 0xE0], .retCc .fd .po),
   ([0xC9], .ret .none), ([0xDD, 0xC9], .ret .dd), ([0xE2, 0x12, 0x4C], .jpCcNn .none .po 0x4C12),
   ([0xFD, 0xE2, 0x12, 0x4C], .jpCcNn .fd .po 0x4C12), ([0xC3, 0x12, 0x4C], .jpNn .none 0x4C12),
   ([0xDD, 0xC3, 0x12, 0x4C], .jpNn .dd 0x4C12), ([0xE4, 0x12, 0x4C], .callCcNn .none .po 0x4C12),
   ([0xFD, 0xE4, 0x12, 0x4C], .callCcNn .fd .po 0x4C12), ([0xCD, 0x12, 0x4C], .callNn .none 0x4C12),
   ([0xDD, 0xCD, 0x12, 0x4C], .callNn .dd 0x4C12), ([0xDF], .rst .none 3), ([0xFD, 0xDF], .rst .fd 3),
   ([0xED, 0x5D], .retn 3), ([0xE9], .jpHl), ([0xED, 0x4D], .reti), ([0xDD, 0xE9], .jpIx), ([0xFD, 0xE9], .jpIy)] = true := by decide

/-- Input and output (spec/49): words written out from the encodings of the table. -/
theorem test_words_of_io : decodesTo [
   ([0xD3, 0x3C], .outNA .none 0x3C), ([0xDD, 0xD3, 0x3C], .outNA .dd 0x3C), ([0xDB, 0x3C], .inAN .none 0x3C),
   ([0xFD, 0xDB, 0x3C], .inAN .fd 0x3C), ([0xED, 0x60], .inRC .h), ([0xED, 0x61], .outCR .h), ([0xED, 0x70], .inC),
   ([0xED, 0x71], .outC0), ([0xED, 0xA2], .ini), ([0xED, 0xA3], .outi), ([0xED, 0xAA], .ind), ([0xED, 0xAB], .outd),
   ([0xED, 0xB2], .inir), ([0xED, 0xB3], .otir), ([0xED, 0xBA], .indr), ([0xED, 0xBB], .otdr)] = true := by decide

/-! ### Single steps: vectors of spec/95 -/

/-- V40.4, R202: LD H,(HL). -/
theorem test_v40_4_ld_h_hl :
    after (placed [0x66] { start with h := 0x4C, l := 0x00 } [(0xC00, 0x4D)])
      (fun t => (t.cpu.h, t.cpu.pc, t.cycles)) = some (0x4D, 0x0101, 7) := by decide

/-- V40.5, R203: LD B,(IX-128). -/
theorem test_v40_5_ld_b_ix_128 :
    after (placed [0xDD, 0x46, 0x80] { start with ix := 0x4C80 } [(0xC00, 0x77)])
      (fun t => (t.cpu.b, t.cpu.pc, t.cycles)) = some (0x77, 0x0103, 19) := by decide

/-- V40.6, R203: LD H,(IX+0). -/
theorem test_v40_6_ld_h_ix_0 :
    after (placed [0xDD, 0x66, 0x00] { start with ix := 0x4C00, h := 0x11, l := 0x11 } [(0xC00, 0xAB)])
      (fun t => (t.cpu.h, t.cpu.pc, t.cycles)) = some (0xAB, 0x0103, 19) := by decide

/-- V40.8, R204: LD (HL),A (A15 ignored). -/
theorem test_v40_8_ld_hl_a_a15_ignored :
    after (placed [0x77] { start with h := 0xC0, l := 0x00, a := 0x55 } [])
      (fun t => (t.cpu.pc, t.busRead 0x4000, t.cycles)) = some (0x0101, 0x55, 7) := by decide

/-- V40.11, R206: LD (HL),0x01 (flip_screen). -/
theorem test_v40_11_ld_hl_0x01_flip_screen :
    after (placed [0x36, 0x01] { start with h := 0x50, l := 0x03 } [])
      (fun t => (t.cpu.pc, t.bus.flipScreen, t.cycles)) = some (0x0102, true, 10) := by decide

/-- V40.16, R210: LD A,(0xD000) (A15 ignored: IN0, coin1). -/
theorem test_v40_16_ld_a_0xd000_a15_ignored_in0_coin1 :
    after (withBus (placed [0x3A, 0x00, 0xD0] start []) { Bus.reset with ram := [], inputs := { Inputs.released with coin1 := true } })
      (fun t => (t.cpu.a, t.cpu.pc, t.cycles)) = some (0xDF, 0x0103, 13) := by decide

/-- V40.19, R210: LD A,(0x6000) (unmapped). -/
theorem test_v40_19_ld_a_0x6000_unmapped :
    after (placed [0x3A, 0x00, 0x60] { start with a := 0x00 } [])
      (fun t => (t.cpu.a, t.cpu.pc, t.cycles)) = some (0xFF, 0x0103, 13) := by decide

/-- V40.25, R214: LD A,I (zero, CF kept). -/
theorem test_v40_25_ld_a_i_zero_cf_kept :
    after (placed [0xED, 0x57] { start with i := 0x00, a := 0x55, f := 0xFF } [])
      (fun t => (t.cpu.a, t.cpu.f, t.cpu.pc, t.cycles)) = some (0x00, 0x41, 0x0102, 9) := by decide

/-- V40.26, R215: LD A,R. -/
theorem test_v40_26_ld_a_r :
    after (placed [0xED, 0x5F] { start with r := 0xFF, f := 0x01 } [])
      (fun t => (t.cpu.a, t.cpu.f, t.cpu.pc, t.cpu.r, t.cycles)) = some (0x81, 0x81, 0x0102, 0x81, 9) := by decide

/-- V40.30, R218: LD IXH,IXL. -/
theorem test_v40_30_ld_ixh_ixl :
    after (placed [0xDD, 0x65] { start with ix := 0x1234, h := 0xAA, l := 0xAA } [])
      (fun t => (t.cpu.ix, t.cpu.pc, t.cycles)) = some (0x3434, 0x0102, 8) := by decide

/-- V41.3, R232: LD HL,(0x4FFF) (RAM then IN0). -/
theorem test_v41_3_ld_hl_0x4fff_ram_then_in0 :
    after (withBus (placed [0x2A, 0xFF, 0x4F] start [(0xFFF, 0x12)]) { Bus.reset with ram := [(0xFFF, 0x12)], inputs := { Inputs.released with up := true } })
      (fun t => ((t.cpu.h, t.cpu.l), t.cpu.pc, t.cycles)) = some ((0xFE, 0x12), 0x0103, 16) := by decide

/-- V41.6, R233: LD HL,(0x4C10) (ED 6B). -/
theorem test_v41_6_ld_hl_0x4c10_ed_6b :
    after (placed [0xED, 0x6B, 0x10, 0x4C] start [(0xC10, 0x34), (0xC11, 0x12)])
      (fun t => ((t.cpu.h, t.cpu.l), t.cpu.pc, t.cycles)) = some ((0x12, 0x34), 0x0104, 20) := by decide

/-- V41.9, R235: LD (0x5000),HL (two latch bits). -/
theorem test_v41_9_ld_0x5000_hl_two_latch_bits :
    after (withBus (placed [0x22, 0x00, 0x50] { start with h := 0x01, l := 0x00 } []) { Bus.reset with ram := [], intEnable := true })
      (fun t => (t.cpu.pc, t.bus.intEnable, t.bus.soundEnable, t.cycles)) = some (0x0103, false, true, 16) := by decide

/-- V41.10, R236: LD (0x4C02),SP. -/
theorem test_v41_10_ld_0x4c02_sp :
    after (placed [0xED, 0x73, 0x02, 0x4C] { start with sp := 0x4FC0 } [])
      (fun t => (t.cpu.pc, t.busRead 0x4C02, t.busRead 0x4C03, t.cycles)) = some (0x0104, 0xC0, 0x4F, 20) := by decide

/-- V41.15, R240: PUSH AF. -/
theorem test_v41_15_push_af :
    after (placed [0xF5] { start with a := 0x12, f := 0xFF } [])
      (fun t => (t.cpu.sp, t.cpu.pc, t.busRead 0x4FEE, t.busRead 0x4FEF, t.cycles)) = some (0x4FEE, 0x0101, 0xFF, 0x12, 11) := by decide

/-- V41.19, R242: POP AF (all 8 flag bits). -/
theorem test_v41_19_pop_af_all_8_flag_bits :
    after (placed [0xF1] { start with sp := 0x4FEE } [(0xFEE, 0xFF), (0xFEF, 0x12)])
      (fun t => (t.cpu.a, t.cpu.f, t.cpu.sp, t.cpu.pc, t.cycles)) = some (0x12, 0xFF, 0x4FF0, 0x0101, 10) := by decide

/-- V41.20, R242: POP HL (SP = 0xFFFF: unmapped then ROM). -/
theorem test_v41_20_pop_hl_sp_0xffff_unmapped_then_rom :
    after (placed [0xE1] { start with sp := 0xFFFF } [])
      (fun t => (t.cpu.l, t.cpu.sp, t.cpu.pc, t.cycles)) = some (0xFF, 0x0001, 0x0101, 10) := by decide

/-- V42.3, R262: EXX. -/
theorem test_v42_3_exx :
    after (placed [0xD9] { start with b := 0x00, c := 0x01, d := 0x00, e := 0x02, h := 0x00, l := 0x03, b2 := 0x10, c2 := 0x11, d2 := 0x20, e2 := 0x21, h2 := 0x30, l2 := 0x31 } [])
      (fun t => ((t.cpu.b, t.cpu.c), (t.cpu.h, t.cpu.l), (t.cpu.b2, t.cpu.c2), (t.cpu.h2, t.cpu.l2), t.cycles)) = some ((0x10, 0x11), (0x30, 0x31), (0x00, 0x01), (0x00, 0x03), 4) := by decide

/-- V42.4, R263: EX (SP),HL. -/
theorem test_v42_4_ex_sp_hl :
    after (placed [0xE3] { start with h := 0xAB, l := 0xCD, sp := 0x4FEE } [(0xFEE, 0x34), (0xFEF, 0x12)])
      (fun t => ((t.cpu.h, t.cpu.l), t.cpu.pc, t.busRead 0x4FEE, t.busRead 0x4FEF, t.cycles)) = some ((0x12, 0x34), 0x0101, 0xCD, 0xAB, 19) := by decide

/-- V42.7, R265: LDI (BC = 0 wraps). -/
theorem test_v42_7_ldi_bc_0_wraps :
    after (placed [0xED, 0xA0] { start with h := 0x40, l := 0x00, d := 0x44, e := 0x00, b := 0x00, c := 0x00, a := 0x02, f := 0xFF } [])
      (fun t => (((t.cpu.b, t.cpu.c), t.cpu.f, t.cpu.e), (t.cpu.l, t.cpu.pc, t.cycles))) = some (((0xFF, 0xFF), 0xE5, 0x01), (0x01, 0x0102, 16)) := by decide

/-- V42.10, R266: LDIR (first of BC = 3: PC back). -/
theorem test_v42_10_ldir_first_of_bc_3_pc_back :
    after (placed [0xED, 0xB0] { start with h := 0x4C, l := 0x00, d := 0x4C, e := 0x10, b := 0x00, c := 0x03 } [(0xC00, 0x01)])
      (fun t => ((t.cpu.f, t.cpu.c, t.cpu.e), (t.cpu.l, t.cpu.r, t.cpu.pc), (t.busRead 0x4C10, t.cycles))) = some ((0x04, 0x02, 0x11), (0x01, 0x02, 0x0100), (0x01, 21)) := by decide

/-- V42.15, R269: CPI (no match, CF kept). -/
theorem test_v42_15_cpi_no_match_cf_kept :
    after (placed [0xED, 0xA1] { start with a := 0x00, h := 0x4C, l := 0x00, b := 0x00, c := 0x02, f := 0x01 } [(0xC00, 0x01)])
      (fun t => (t.cpu.f, t.cpu.c, t.cpu.l, t.cpu.pc, t.cycles)) = some (0xBF, 0x01, 0x01, 0x0102, 16) := by decide

/-- V42.20, R272: CPDR (BC = 1, no match). -/
theorem test_v42_20_cpdr_bc_1_no_match :
    after (placed [0xED, 0xB9] { start with a := 0x10, h := 0x4C, l := 0x00, b := 0x00, c := 0x01 } [(0xC00, 0x01)])
      (fun t => ((t.cpu.h, t.cpu.l), t.cpu.f, t.cpu.c, t.cpu.pc, t.cycles)) = some ((0x4B, 0xFF), 0x3A, 0x00, 0x0102, 16) := by decide

/-- V43.2, R291: ADD A,B (signed overflow). -/
theorem test_v43_2_add_a_b_signed_overflow :
    after (placed [0x80] { start with a := 0x7F, b := 0x01 } [])
      (fun t => (t.cpu.a, t.cpu.f, t.cpu.pc, t.cycles)) = some (0x80, 0x94, 0x0101, 4) := by decide

/-- V43.7, R291: ADD A,(IX+1). -/
theorem test_v43_7_add_a_ix_1 :
    after (placed [0xDD, 0x86, 0x01] { start with a := 0x20, ix := 0x4C00 } [(0xC01, 0x08)])
      (fun t => (t.cpu.a, t.cpu.f, t.cpu.pc, t.cycles)) = some (0x28, 0x28, 0x0103, 19) := by decide

/-- V43.11, R292: ADC A,B (0x7F + 0x00 + 1). -/
theorem test_v43_11_adc_a_b_0x7f_0x00_1 :
    after (placed [0x88] { start with a := 0x7F, b := 0x00, f := 0x01 } [])
      (fun t => (t.cpu.a, t.cpu.f, t.cpu.pc, t.cycles)) = some (0x80, 0x94, 0x0101, 4) := by decide

/-- V43.14, R293: SUB B (signed overflow). -/
theorem test_v43_14_sub_b_signed_overflow :
    after (placed [0x90] { start with a := 0x80, b := 0x01 } [])
      (fun t => (t.cpu.a, t.cpu.f, t.cpu.pc, t.cycles)) = some (0x7F, 0x3E, 0x0101, 4) := by decide

/-- V43.18, R294: SBC A,0xFF (borrow in). -/
theorem test_v43_18_sbc_a_0xff_borrow_in :
    after (placed [0xDE, 0xFF] { start with a := 0x00, f := 0x01 } [])
      (fun t => (t.cpu.f, t.cpu.pc, t.cycles)) = some (0x53, 0x0102, 7) := by decide

/-- V43.20, R295: AND 0x00. -/
theorem test_v43_20_and_0x00 :
    after (placed [0xE6, 0x00] { start with a := 0xFF, f := 0xFF } [])
      (fun t => (t.cpu.a, t.cpu.f, t.cpu.pc, t.cycles)) = some (0x00, 0x54, 0x0102, 7) := by decide

/-- V43.22, R296: XOR A. -/
theorem test_v43_22_xor_a :
    after (placed [0xAF] { start with a := 0x5C, f := 0xFF } [])
      (fun t => (t.cpu.a, t.cpu.f, t.cpu.pc, t.cycles)) = some (0x00, 0x44, 0x0101, 4) := by decide

/-- V43.24, R297: OR (HL). -/
theorem test_v43_24_or_hl :
    after (placed [0xB6] { start with a := 0x00, h := 0x4C, l := 0x00 } [(0xC00, 0x80)])
      (fun t => (t.cpu.a, t.cpu.f, t.cpu.pc, t.cycles)) = some (0x80, 0x80, 0x0101, 7) := by decide

/-- V43.26, R298: CP 0x28 (equal; YF, XF from operand). -/
theorem test_v43_26_cp_0x28_equal_yf_xf_from_operand :
    after (placed [0xFE, 0x28] { start with a := 0x28 } [])
      (fun t => (t.cpu.f, t.cpu.pc, t.cycles)) = some (0x6A, 0x0102, 7) := by decide

/-- V43.29, R299: INC A (0x7F). -/
theorem test_v43_29_inc_a_0x7f :
    after (placed [0x3C] { start with a := 0x7F } [])
      (fun t => (t.cpu.a, t.cpu.f, t.cpu.pc, t.cycles)) = some (0x80, 0x94, 0x0101, 4) := by decide

/-- V43.33, R301: INC (IX+1). -/
theorem test_v43_33_inc_ix_1 :
    after (placed [0xDD, 0x34, 0x01] { start with ix := 0x4C00 } [(0xC01, 0x7F)])
      (fun t => (t.cpu.f, t.cpu.pc, t.busRead 0x4C01, t.cycles)) = some (0x94, 0x0103, 0x80, 23) := by decide

/-- V43.35, R302: DEC A (0x80). -/
theorem test_v43_35_dec_a_0x80 :
    after (placed [0x3D] { start with a := 0x80, f := 0x01 } [])
      (fun t => (t.cpu.a, t.cpu.f, t.cpu.pc, t.cycles)) = some (0x7F, 0x3F, 0x0101, 4) := by decide

/-- V43.38, R304: DEC (IY-1). -/
theorem test_v43_38_dec_iy_1 :
    after (placed [0xFD, 0x35, 0xFF] { start with iy := 0x4C10 } [(0xC0F, 0x01)])
      (fun t => (t.cpu.f, t.cpu.pc, t.busRead 0x4C0F, t.cycles)) = some (0x42, 0x0103, 0x00, 23) := by decide

/-- V43.39, R305: DEC IYH. -/
theorem test_v43_39_dec_iyh :
    after (placed [0xFD, 0x25] { start with iy := 0x1200 } [])
      (fun t => (t.cpu.f, t.cpu.iy, t.cpu.pc, t.cycles)) = some (0x02, 0x1100, 0x0102, 8) := by decide

/-- V44.2, R322: ED 00 (no-op). -/
theorem test_v44_2_ed_00_no_op :
    after (placed [0xED, 0x00] start [])
      (fun t => (t.cpu.pc, t.cpu.r, t.cycles)) = some (0x0102, 0x02, 8) := by decide

/-- V44.4, R323: DD 04 (INC B, prefix ignored). -/
theorem test_v44_4_dd_04_inc_b_prefix_ignored :
    after (placed [0xDD, 0x04] { start with b := 0x01 } [])
      (fun t => (t.cpu.b, t.cpu.pc, t.cpu.r, t.cycles)) = some (0x02, 0x0102, 0x02, 8) := by decide

/-- V44.6, R152: DD before FD (prefix alone). -/
theorem test_v44_6_dd_before_fd_prefix_alone :
    after (placed [0xDD, 0xFD, 0x21, 0x34, 0x12] { start with ix := 0x1111 } [])
      (fun t => (t.cpu.pc, t.cpu.r, t.cycles)) = some (0x0101, 0x01, 4) := by decide

/-- V44.9, R325: SCF (HF, NF cleared; SF ZF PF kept). -/
theorem test_v44_9_scf_hf_nf_cleared_sf_zf_pf_kept :
    after (placed [0x37] { start with a := 0x00, f := 0xFF } [])
      (fun t => (t.cpu.f, t.cpu.pc, t.cycles)) = some (0xC5, 0x0101, 4) := by decide

/-- V44.11, R326: CCF (CF = 0). -/
theorem test_v44_11_ccf_cf_0 :
    after (placed [0x3F] { start with a := 0xFF, f := 0x00 } [])
      (fun t => (t.cpu.f, t.cpu.pc, t.cycles)) = some (0x29, 0x0101, 4) := by decide

/-- V44.13, R327: DAA (0x9A). -/
theorem test_v44_13_daa_0x9a :
    after (placed [0x27] { start with a := 0x9A } [])
      (fun t => (t.cpu.a, t.cpu.f, t.cpu.pc, t.cycles)) = some (0x00, 0x55, 0x0101, 4) := by decide

/-- V44.14, R327: DAA (after 0x42 - 0x15 = 0x2D, HF, NF). -/
theorem test_v44_14_daa_after_0x42_0x15_0x2d_hf_nf :
    after (placed [0x27] { start with a := 0x2D, f := 0x12 } [])
      (fun t => (t.cpu.a, t.cpu.f, t.cpu.pc, t.cycles)) = some (0x27, 0x26, 0x0101, 4) := by decide

/-- V44.17, R328: CPL. -/
theorem test_v44_17_cpl :
    after (placed [0x2F] { start with a := 0xB4 } [])
      (fun t => (t.cpu.a, t.cpu.f, t.cpu.pc, t.cycles)) = some (0x4B, 0x1A, 0x0101, 4) := by decide

/-- V44.19, R329: NEG (0x80). -/
theorem test_v44_19_neg_0x80 :
    after (placed [0xED, 0x44] { start with a := 0x80 } [])
      (fun t => (t.cpu.f, t.cpu.pc, t.cycles)) = some (0x87, 0x0102, 8) := by decide

/-- V44.24, R330: IM 0 (copy ED 6E). -/
theorem test_v44_24_im_0_copy_ed_6e :
    after (placed [0xED, 0x6E] { start with im := .im2 } [])
      (fun t => (t.cpu.pc, t.cpu.im, t.cycles)) = some (0x0102, .im0, 8) := by decide

/-- V44.28, R333: EI. -/
theorem test_v44_28_ei :
    after (placed [0xFB] start [])
      (fun t => (t.cpu.pc, t.cpu.iff1, t.cpu.iff2, t.cpu.eiDelay, t.cycles)) = some (0x0101, true, true, true, 4) := by decide

/-- V45.2, R350: ADD HL,HL (carry; SF ZF PF kept). -/
theorem test_v45_2_add_hl_hl_carry_sf_zf_pf_kept :
    after (placed [0x29] { start with h := 0x80, l := 0x00, f := 0xC4 } [])
      (fun t => (t.cpu.f, t.cpu.h, t.cpu.pc, t.cycles)) = some (0xC5, 0x00, 0x0101, 11) := by decide

/-- V45.3, R350: ADD HL,SP (half carry from bit 11). -/
theorem test_v45_3_add_hl_sp_half_carry_from_bit_11 :
    after (placed [0x39] { start with h := 0x0F, l := 0xFF, sp := 0x0001 } [])
      (fun t => ((t.cpu.h, t.cpu.l), t.cpu.f, t.cpu.pc, t.cycles)) = some ((0x10, 0x00), 0x10, 0x0101, 11) := by decide

/-- V45.5, R351: ADC HL,BC (0xFFFF + 0 + 1). -/
theorem test_v45_5_adc_hl_bc_0xffff_0_1 :
    after (placed [0xED, 0x4A] { start with h := 0xFF, l := 0xFF, b := 0x00, c := 0x00, f := 0x01 } [])
      (fun t => ((t.cpu.h, t.cpu.l), t.cpu.f, t.cpu.pc, t.cycles)) = some ((0x00, 0x00), 0x51, 0x0102, 15) := by decide

/-- V45.7, R352: SBC HL,BC (signed overflow). -/
theorem test_v45_7_sbc_hl_bc_signed_overflow :
    after (placed [0xED, 0x42] { start with h := 0x80, l := 0x00, b := 0x00, c := 0x01 } [])
      (fun t => ((t.cpu.h, t.cpu.l), t.cpu.f, t.cpu.pc, t.cycles)) = some ((0x7F, 0xFF), 0x3E, 0x0102, 15) := by decide

/-- V45.10, R353: ADD IX,IX. -/
theorem test_v45_10_add_ix_ix :
    after (placed [0xDD, 0x29] { start with ix := 0x8800, h := 0x00, l := 0x01 } [])
      (fun t => (t.cpu.f, t.cpu.ix, t.cpu.pc, t.cycles)) = some (0x11, 0x1000, 0x0102, 15) := by decide

/-- V45.13, R354: INC SP (wrap). -/
theorem test_v45_13_inc_sp_wrap :
    after (placed [0x33] { start with sp := 0xFFFF } [])
      (fun t => (t.cpu.sp, t.cpu.pc, t.cycles)) = some (0x0000, 0x0101, 6) := by decide

/-- V46.2, R370: RLCA (SF ZF PF kept). -/
theorem test_v46_2_rlca_sf_zf_pf_kept :
    after (placed [0x07] { start with a := 0x00, f := 0xFF } [])
      (fun t => (t.cpu.f, t.cpu.pc, t.cycles)) = some (0xC4, 0x0101, 4) := by decide

/-- V46.4, R372: RLA. -/
theorem test_v46_4_rla :
    after (placed [0x17] { start with a := 0x76, f := 0x01 } [])
      (fun t => (t.cpu.a, t.cpu.f, t.cpu.pc, t.cycles)) = some (0xED, 0x28, 0x0101, 4) := by decide

/-- V46.8, R375, R374: RLC (IX+1),B. -/
theorem test_v46_8_rlc_ix_1_b :
    after (placed [0xDD, 0xCB, 0x01, 0x00] { start with ix := 0x4C00, b := 0xEE } [(0xC01, 0x81)])
      (fun t => (t.cpu.f, t.cpu.b, t.cpu.pc, t.busRead 0x4C01, t.cycles)) = some (0x05, 0x03, 0x0104, 0x03, 23) := by decide

/-- V46.11, R377: RL D (carry in). -/
theorem test_v46_11_rl_d_carry_in :
    after (placed [0xCB, 0x12] { start with d := 0x80, f := 0x01 } [])
      (fun t => (t.cpu.d, t.cpu.pc, t.cycles)) = some (0x01, 0x0102, 8) := by decide

/-- V46.13, R378: RR (IY-2). -/
theorem test_v46_13_rr_iy_2 :
    after (placed [0xFD, 0xCB, 0xFE, 0x1E] { start with iy := 0x4C02, f := 0x01 } [(0xC00, 0x01)])
      (fun t => (t.cpu.f, t.cpu.pc, t.busRead 0x4C00, t.cycles)) = some (0x81, 0x0104, 0x80, 23) := by decide

/-- V46.16, R380: SRA A (0x01). -/
theorem test_v46_16_sra_a_0x01 :
    after (placed [0xCB, 0x2F] { start with a := 0x01 } [])
      (fun t => (t.cpu.a, t.cpu.f, t.cpu.pc, t.cycles)) = some (0x00, 0x45, 0x0102, 8) := by decide

/-- V46.17, R381: SLL B. -/
theorem test_v46_17_sll_b :
    after (placed [0xCB, 0x30] { start with b := 0x80 } [])
      (fun t => (t.cpu.f, t.cpu.b, t.cpu.pc, t.cycles)) = some (0x01, 0x01, 0x0102, 8) := by decide

/-- V46.21, R383: RLD. -/
theorem test_v46_21_rld :
    after (placed [0xED, 0x6F] { start with a := 0x7A, h := 0x4C, l := 0x00 } [(0xC00, 0x31)])
      (fun t => (t.cpu.a, t.cpu.f, t.cpu.pc, t.busRead 0x4C00, t.cycles)) = some (0x73, 0x20, 0x0102, 0x1A, 18) := by decide

/-- V46.22, R384: RRD. -/
theorem test_v46_22_rrd :
    after (placed [0xED, 0x67] { start with a := 0x84, h := 0x4C, l := 0x00, f := 0x01 } [(0xC00, 0x20)])
      (fun t => (t.cpu.a, t.cpu.f, t.cpu.pc, t.busRead 0x4C00, t.cycles)) = some (0x80, 0x81, 0x0102, 0x42, 18) := by decide

/-- V47.1, R400: BIT 7,A (set). -/
theorem test_v47_1_bit_7_a_set :
    after (placed [0xCB, 0x7F] { start with a := 0x80 } [])
      (fun t => (t.cpu.f, t.cpu.pc, t.cycles)) = some (0x90, 0x0102, 8) := by decide

/-- V47.3, R400: BIT 3,C (CF kept). -/
theorem test_v47_3_bit_3_c_cf_kept :
    after (placed [0xCB, 0x59] { start with c := 0x08, f := 0x01 } [])
      (fun t => (t.cpu.f, t.cpu.pc, t.cycles)) = some (0x19, 0x0102, 8) := by decide

/-- V47.7, R402: BIT 0,(IX+5) (z = 0 copy). -/
theorem test_v47_7_bit_0_ix_5_z_0_copy :
    after (placed [0xDD, 0xCB, 0x05, 0x40] { start with ix := 0x4C00, b := 0x55 } [])
      (fun t => (t.cpu.f, t.cpu.pc, t.cycles)) = some (0x5C, 0x0104, 20) := by decide

/-- V47.11, R404: SET 0,(HL) (0x5000: reads IN0, writes int_enable). -/
theorem test_v47_11_set_0_hl_0x5000_reads_in0_writes_int_enable :
    after (placed [0xCB, 0xC6] { start with h := 0x50, l := 0x00 } [])
      (fun t => (t.cpu.pc, t.bus.intEnable, t.cycles)) = some (0x0102, true, 15) := by decide

/-- V47.14, R406: SET 1,(IX+0),H (real H). -/
theorem test_v47_14_set_1_ix_0_h_real_h :
    after (placed [0xDD, 0xCB, 0x00, 0xCC] { start with ix := 0x4C00, h := 0x00, l := 0x00 } [])
      (fun t => (t.cpu.h, t.cpu.pc, t.busRead 0x4C00, t.cycles)) = some (0x02, 0x0104, 0x02, 23) := by decide

/-- V47.17, R409: RES 1,(IX+2). -/
theorem test_v47_17_res_1_ix_2 :
    after (placed [0xDD, 0xCB, 0x02, 0x8E] { start with ix := 0x4FF0 } [(0xFF2, 0x03)])
      (fun t => (t.cpu.pc, t.busRead 0x4FF2, t.cycles)) = some (0x0104, 0x01, 23) := by decide

/-- V48.5, R421: JP PO,0x1234 (PF = 1). -/
theorem test_v48_5_jp_po_0x1234_pf_1 :
    after (placed [0xE2, 0x34, 0x12] { start with f := 0x04 } [])
      (fun t => (t.cpu.pc, t.cycles)) = some (0x0103, 10) := by decide

/-- V48.7, R421: JP P,0x1234 (SF = 1). -/
theorem test_v48_7_jp_p_0x1234_sf_1 :
    after (placed [0xF2, 0x34, 0x12] { start with f := 0x80 } [])
      (fun t => (t.cpu.pc, t.cycles)) = some (0x0103, 10) := by decide

/-- V48.12, R422: JR -3 at 0x0000 (wraps). -/
theorem test_v48_12_jr_3_at_0x0000_wraps :
    after (placed [0x18, 0xFD] { start with pc := 0x0000 } [])
      (fun t => (t.cpu.pc, t.cycles)) = some (0xFFFF, 12) := by decide

/-- V48.15, R423: JR NZ,-4 (ZF = 1). -/
theorem test_v48_15_jr_nz_4_zf_1 :
    after (placed [0x20, 0xFC] { start with pc := 0x0200, f := 0x40 } [])
      (fun t => (t.cpu.pc, t.cycles)) = some (0x0202, 7) := by decide

/-- V48.21, R426: DJNZ -2 (B = 0: becomes 0xFF, taken). -/
theorem test_v48_21_djnz_2_b_0_becomes_0xff_taken :
    after (placed [0x10, 0xFE] { start with pc := 0x0300, b := 0x00, f := 0xFF } [])
      (fun t => (t.cpu.b, t.cpu.pc, t.cycles)) = some (0xFF, 0x0300, 13) := by decide

/-- V48.22, R430: CALL 0x2000. -/
theorem test_v48_22_call_0x2000 :
    after (placed [0xCD, 0x00, 0x20] start [])
      (fun t => (t.cpu.sp, t.cpu.pc, t.busRead 0x4FEE, t.busRead 0x4FEF, t.cycles)) = some (0x4FEE, 0x2000, 0x03, 0x01, 17) := by decide

/-- V48.28, R433: RET M (SF = 0). -/
theorem test_v48_28_ret_m_sf_0 :
    after (placed [0xF8] { start with sp := 0x4FEE } [(0xFEE, 0x03), (0xFEF, 0x01)])
      (fun t => (t.cpu.pc, t.cycles)) = some (0x0101, 5) := by decide

/-- V48.29, R434: RETI (IFF2 = 1). -/
theorem test_v48_29_reti_iff2_1 :
    after (placed [0xED, 0x4D] { start with iff2 := true, sp := 0x4FEE } [(0xFEE, 0x03), (0xFEF, 0x01)])
      (fun t => (t.cpu.sp, t.cpu.pc, t.cpu.iff1, t.cycles)) = some (0x4FF0, 0x0103, true, 14) := by decide

/-- V48.30, R435: RETN (IFF1 = 1, IFF2 = 0). -/
theorem test_v48_30_retn_iff1_1_iff2_0 :
    after (placed [0xED, 0x45] { start with iff1 := true, sp := 0x4FEE } [(0xFEE, 0x03), (0xFEF, 0x01)])
      (fun t => (t.cpu.sp, t.cpu.pc, t.cpu.iff1, t.cycles)) = some (0x4FF0, 0x0103, false, 14) := by decide

/-- V48.32, R436: RST 0x38. -/
theorem test_v48_32_rst_0x38 :
    after (placed [0xFF] { start with pc := 0x1234 } [])
      (fun t => (t.cpu.sp, t.cpu.pc, t.busRead 0x4FEE, t.busRead 0x4FEF, t.cycles)) = some (0x4FEE, 0x0038, 0x35, 0x12, 11) := by decide

/-- V49.6, R454: OUT (C),E. -/
theorem test_v49_6_out_c_e :
    after (placed [0xED, 0x59] { start with e := 0xCF } [])
      (fun t => (t.cpu.pc, t.bus.intVector, t.cycles)) = some (0x0102, 0xCF, 12) := by decide

/-- V49.14, R460: OUTI (L wraps to 0: k = v). -/
theorem test_v49_14_outi_l_wraps_to_0_k_v :
    after (placed [0xED, 0xA3] { start with b := 0x02, c := 0x00, h := 0x4C, l := 0xFF } [(0xCFF, 0xFF)])
      (fun t => (((t.cpu.h, t.cpu.l), t.cpu.f, t.cpu.b), (t.cpu.pc, t.bus.intVector, t.cycles))) = some (((0x4D, 0x00), 0x06, 0x01), (0x0102, 0xFF, 16)) := by decide

/-- V49.16, R462: OUTD. -/
theorem test_v49_16_outd :
    after (placed [0xED, 0xAB] { start with b := 0x10, c := 0x00, h := 0x4C, l := 0x00 } [(0xC00, 0x01)])
      (fun t => (((t.cpu.h, t.cpu.l), t.cpu.f, t.cpu.b), (t.cpu.pc, t.bus.intVector, t.cycles))) = some (((0x4B, 0xFF), 0x1D, 0x0F), (0x0102, 0x01, 16)) := by decide

/-! ### The bare prefixes, the table's words, the bus at its boundaries -/

/-- After a bare `CB` the next byte is read in the CB table: `07` is `RLC A` (log 8). -/
theorem test_bare_cb_selects_its_table :
    after { placed [0x07] { start with a := 0x81 } [] with table := .cb }
      (fun t => (t.cpu.a, t.cpu.f, t.cpu.pc, t.table)) = some (0x03, 0x05, 0x0101, .main) := by decide

/-- Words of the table as it numbers them (log 7): `RETI`, `LD (IX+d),n`, and `PREFIX_CB` with zeros after it. -/
theorem test_table_words :
    decodeTableWord 16 0xED4D = some .reti ∧ decodeTableWord 32 0xDD36853C = some (.ldIxdN 0x85 0x3C) ∧
      decodeTableWord 8 0xCB = some (.rlcR .b) := by decide

/-- A word placed for the next step runs as the first instruction after reset (log 6). -/
theorem test_word_runs_after_reset :
    after (State.reset.withFetchWord 16 0x3E7B) (fun t => (t.cpu.a, t.cpu.pc, t.cycles)) = some (0x7B, 2, 7) := by
  decide

/-- The map at its boundaries, in both halves of the address space (R85, R86, R98, R99, R101, R106). -/
theorem test_bus_reads_at_boundaries :
    [0x0000, 0x3FFF, 0x4000, 0x4FFF, 0x5000, 0x503F, 0x5040, 0x507F, 0x5080, 0x50BF, 0x50C0, 0x7FFF, 0xD03F,
      0xFFFF].map
        (withBus { placed [] start [] with roms := { Roms.none with prog := (imageAt _ 0 [0x11]).write 0x3FFF 0x22 } }
          { Bus.reset with
            ram := [(0, 0x33), (0xFFF, 0x44)]
            inputs := { Inputs.released with credit := true, start2 := true } }).busRead =
      [0x11, 0x22, 0x33, 0x44, 0x7F, 0x7F, 0xBF, 0xBF, 0xC9, 0xC9, 0xFF, 0xFF, 0x7F, 0xFF] := by decide

/-- Where writes of 0xFD go at the boundaries of the map (R86, R102 to R106): RAM, latch bits, audio, sprites. -/
theorem test_bus_writes_at_boundaries :
    [0x3FFF, 0x4FFF, 0x5000, 0x5001, 0x5002, 0x5003, 0x5004, 0x505F, 0x5060, 0xD06F, 0x5070].map
        (fun a =>
          let s := (placed [] start []).busWrite a 0xFD
          (s.bus.ram, (s.bus.intEnable, s.bus.soundEnable, s.bus.flipScreen), s.audio.ch2.vol, s.bus.spritePos)) =
      [([], (false, false, false), 0, []), ([(0xFFF, 0xFD)], (false, false, false), 0, []),
       ([], (true, false, false), 0, []), ([], (false, true, false), 0, []), ([], (false, false, false), 0, []),
       ([], (false, false, true), 0, []), ([], (false, false, false), 0, []), ([], (false, false, false), 13, []),
       ([], (false, false, false), 0, [(0, 0xFD)]), ([], (false, false, false), 0, [(15, 0xFD)]),
       ([], (false, false, false), 0, [])] := by decide

/-- The images of spec/95 sections 4.1 to 4.4, and one waveform byte for the example of R610. -/
def pictureRoms : Roms :=
  { Roms.none with
    tile := imageAt _ 16 [0x93, 0x0F, 0xF0, 0xFF, 0x00, 0x11, 0x88, 0x5A, 0x01, 0x02, 0x04, 0x08, 0x10, 0x20, 0x40, 0x80]
    sprite := (imageAt _ 0xC8 [0x11, 0x22, 0x44, 0x88, 0x0F, 0xF0, 0x00, 0xFF]).write 0xE0 0x08
    color := ((imageAt _ 0 [0x00, 0x07]).write 0x0B 0xC9).write 0x0F 0xFF
    palette := (imageAt _ 20 [0x00, 0x01, 0x0B, 0x0F]).write 37 0x0F |>.write 38 0x0B |>.write 39 0x01
    wave1 := imageAt _ 1 [0x0F] }

/-- The strip of spec/95 section 4.1, `s[0] = 0x93`: column 7 from the top (R562). -/
theorem test_strip_pixel : [0, 1, 2, 3].map (stripPixel pictureRoms.tile 16 7) = [2, 0, 1, 3] := by decide

/-- Rows 0, 3, 4 and 7 of tile 1 (spec/95 section 4.2, R563). -/
theorem test_tile_pixel :
    [0, 3, 4, 7].map (fun y => (List.range 8).map (fun x => tilePixel pictureRoms 1 x y)) =
      [[2, 0, 0, 0, 1, 0, 0, 0], [0, 0, 0, 2, 0, 0, 0, 1], [1, 3, 0, 0, 3, 2, 1, 2], [2, 0, 3, 0, 3, 2, 1, 3]] := by
  decide

/-- Rows 3 and 12 of sprite image 3 (spec/95 section 4.3, R564). -/
theorem test_sprite_pixel :
    [3, 12].map (fun y => (List.range 16).map (fun x => spritePixel pictureRoms 3 x y)) =
      [[0, 0, 0, 0, 0, 0, 0, 0, 3, 0, 2, 1, 0, 0, 0, 3], [0, 0, 0, 0, 0, 0, 0, 1, 0, 0, 0, 0, 0, 0, 0, 0]] := by
  decide

/-- Palettes 5 and 9, bits 7 and 6 of the attribute ignored (spec/95 section 4.4, R566, R567). -/
theorem test_colour :
    [(0x05, 1), (0x45, 2), (0xC5, 3), (0x09, 1), (0x09, 3), (0x00, 0)].map
        (fun x => let p := colour pictureRoms x.1 x.2; [p.red, p.green, p.blue]) =
      [[255, 0, 0], [33, 33, 255], [255, 255, 255], [255, 255, 255], [255, 0, 0], [0, 0, 0]] := by decide

/-- A machine that shows image 3 as sprite 2 in palette 9 (spec/95 section 4.5). -/
def spriteMachine (fields vx vy : Byte) : State :=
  withBus { placed [] start [] with roms := pictureRoms }
    { Bus.reset with ram := [(0xFF4, fields), (0xFF5, 0x09)], spritePos := [(4, vx), (5, vy)] }

/-- Vectors G2 (no flip), G3 (flip x), G4 (flip y), G7 (over the left edge) of spec/95 section 4.5 (R580): a pixel with
its colour, and a transparent one beside it. -/
theorem test_sprite_position_and_flip :
    [spriteMachine 0x0C 0x7F 0x90, spriteMachine 0x0E 0x7F 0x90, spriteMachine 0x0D 0x7F 0x90,
      spriteMachine 0x0C 0xF7 0x90].map
        (fun s => [(124, 128), (115, 128), (127, 140), (4, 128), (121, 128)].map
          (fun x => (s.spritePixelAt 2 x.1 x.2).map (fun p => p.green))) =
      [[some 0, none, none, none, none], [none, some 0, none, none, none], [none, none, some 0, none, none],
       [none, none, none, some 0, none]] := by decide

/-- The example of R610: one active channel, waveform 0, volume 15, one position further: 5250. -/
theorem test_render_sample :
    ({ placed [] start [] with
        roms := pictureRoms
        bus := { Bus.reset with soundEnable := true }
        audio := { Audio.reset with ch0 := { freq := 0x08000, wave := 0, vol := 15, acc := 0 } } }.pushSample).samples =
      [5250] := by decide

/-- The audio registers at the ends of each field take the low nibble (R602); 0x10 is nibble 0 of channel 0 only. -/
theorem test_audio_registers :
    [0x04, 0x05, 0x0A, 0x0F, 0x10, 0x14, 0x15, 0x16, 0x19, 0x1A, 0x1B, 0x1E, 0x1F].map
        (fun off =>
          let t := Audio.reset.write off 0xFD
          ([t.ch0.freq, t.ch1.freq, t.ch2.freq], [t.ch0.wave, t.ch1.wave, t.ch2.wave],
            [t.ch0.vol, t.ch1.vol, t.ch2.vol])) =
      [([0, 0, 0], [0, 0, 0], [0, 0, 0]), ([0, 0, 0], [5, 0, 0], [0, 0, 0]), ([0, 0, 0], [0, 5, 0], [0, 0, 0]),
       ([0, 0, 0], [0, 0, 5], [0, 0, 0]), ([0xD, 0, 0], [0, 0, 0], [0, 0, 0]),
       ([0xD0000, 0, 0], [0, 0, 0], [0, 0, 0]), ([0, 0, 0], [0, 0, 0], [13, 0, 0]),
       ([0, 0xD0, 0], [0, 0, 0], [0, 0, 0]), ([0, 0xD0000, 0], [0, 0, 0], [0, 0, 0]),
       ([0, 0, 0], [0, 0, 0], [0, 13, 0]), ([0, 0, 0xD0], [0, 0, 0], [0, 0, 0]),
       ([0, 0, 0xD0000], [0, 0, 0], [0, 0, 0]), ([0, 0, 0], [0, 0, 0], [0, 0, 13])] := by decide

/-- An interrupt is refused with `IFF1` clear and in the shadow of `EI`; accepted, each mode goes to its target (R510
to R513). -/
theorem test_interrupt_entry_in_each_mode :
    [({ start with iff1 := false } : Cpu), { start with iff1 := true, eiDelay := true },
      { start with iff1 := true, im := .im0 }, { start with iff1 := true, im := .im1, halted := true },
      { start with iff1 := true, im := .im2, i := 0x4F }].map
        (fun c =>
          let r := (placed [] c [(0xFFA, 0x34), (0xFFB, 0x12)]).raiseInterrupt 0xFA
          (r.1.cpu.pc, r.1.cpu.sp, r.1.cpu.halted, r.2)) =
      [(0x0100, 0x4FF0, false, 0), (0x0100, 0x4FF0, false, 0), (0x0038, 0x4FEE, false, 13),
       (0x0038, 0x4FEE, false, 13), (0x1234, 0x4FEE, false, 19)] := by decide

/-! ### Witnesses: the hypotheses of the statements can be met -/

/-- `LD (IX+2),0x7F` at 0x0100. -/
def example1 : State := placed [0xDD, 0x36, 0x02, 0x7F] { start with ix := 0x4C00 } []

theorem witness_StepRunsTheDecodedInstruction :
    example1.cpu.halted = false ∧ example1.table = .main ∧ wellFormed (.ldIxdN 0x02 0x7F) = true ∧
      decodeBytes [example1.busRead example1.cpu.pc, example1.busRead (example1.cpu.pc + 1),
        example1.busRead (example1.cpu.pc + 2), example1.busRead (example1.cpu.pc + 3)] = .ldIxdN 0x02 0x7F := by decide

theorem witness_BytesPlacedAtPcAreExecuted :
    example1.cpu.halted = false ∧ example1.table = .main ∧ wellFormed (.ldIxdN 0x02 0x7F) = true ∧
      ∀ (k : Nat) (b : Byte), (encode (.ldIxdN 0x02 0x7F) ++ lookahead (.ldIxdN 0x02 0x7F))[k]? = some b →
        example1.busRead (example1.cpu.pc + BitVec.ofNat 16 k) = b := by
  refine ⟨rfl, rfl, rfl, fun k b h => ?_⟩
  rcases k with _ | _ | _ | _ | k
  · cases h; decide
  · cases h; decide
  · cases h; decide
  · cases h; decide
  · cases h

theorem witness_HaltedStepOnlyAdvancesRefresh :
    ({ example1 with cpu := { start with halted := true } } : State).cpu.halted = true := rfl

theorem witness_RefreshCounterAdvance :
    wellFormed (.nop .none) = true ∧ wellFormed .aloneDdFd = true ∧ wellFormed (.nop .fd) = true := by decide

theorem witness_DecodeOfEncodeIsTheInstruction :
    wellFormed (.bitIxd 7 0xFF 6) = true ∧ wellFormed .aloneFdEd = true := by decide

theorem witness_NothingEverFails : example1.table = .main ∧ wellFormed (.incIxd 0x80) = true := by decide

theorem witness_StateInvariantIsKept : example1.Inv ∧ ∃ t, step example1 = .next t :=
  ⟨⟨by decide, by decide, by decide, Roms.wf _, by unfold Audio.NibblesAbsent; decide, by decide,
    by decide, rfl⟩, ⟨_, rfl⟩⟩

/-- Arrays of the exact lengths, and arrays that are one byte short or long in one place. -/
theorem witness_PowerOnValues :
    let x : RomImages :=
      { prog := .replicate 16384 0, tile := .replicate 4096 0, sprite := .replicate 4096 0, color := .replicate 32 0
        palette := .replicate 256 0, wave1 := .replicate 256 0, wave2 := .replicate 256 0 }
    x.Exact ∧ ¬({ x with color := .replicate 31 0 } : RomImages).Exact ∧
      ¬({ x with wave2 := .replicate 257 0 } : RomImages).Exact := by
  intro x
  have len (n : Nat) : (List.replicate n (0 : Byte)).length = n := List.length_replicate
  refine ⟨⟨len _, len _, len _, len _, len _, len _, len _⟩, fun h => ?_, fun h => ?_⟩
  · exact absurd ((len 31).symm.trans h.2.2.2.1) (by decide)
  · exact absurd ((len 257).symm.trans h.2.2.2.2.2.2) (by decide)

theorem witness_OnlyTheirInstructionsChangeControlRegisters :
    ∃ t, exec (.ei .none) example1 = .next t ∧ t.cpu.iff1 ≠ example1.cpu.iff1 := ⟨_, rfl, by decide⟩

theorem witness_InstructionsLeaveTheRestAlone :
    ∃ t, exec (.outNA .none 0) { example1 with cpu := { start with a := 0xFA } } = .next t ∧ t.bus.intVector = 0xFA :=
  ⟨_, rfl, rfl⟩

theorem witness_OnlyStackInstructionsMoveTheStackPointer :
    ∃ t, exec (.rst .none 7) example1 = .next t ∧ t.cpu.sp = example1.cpu.sp - 2 := ⟨_, rfl, by decide⟩

theorem witness_DecimalAdjustGivesBcdSums :
    (∃ s : State, s.cpu.a.toNat = 16 * (0 / 10) + 0 % 10 ∧ (s.reg .b).toNat = 16 * (99 / 10) + 99 % 10) ∧
      ∃ s : State, s.cpu.a.toNat = 16 * (99 / 10) + 99 % 10 ∧ (s.reg .b).toNat = 16 * (0 / 10) + 0 % 10 :=
  ⟨⟨{ example1 with cpu := { start with b := 0x99 } }, by decide⟩,
    ⟨{ example1 with cpu := { start with a := 0x99 } }, by decide⟩⟩

theorem witness_CallsPushThePc :
    example1.cpu.meets .c = false ∧ example1.cpu.meets .nc = true := by decide

theorem witness_InterruptEntry :
    (start.iff1 = false ∧ { start with iff1 := true, eiDelay := true }.eiDelay = true) ∧
      ¬({ start with iff1 := true }.iff1 = false ∨ { start with iff1 := true }.eiDelay = true) := by decide

/-- The stack at both ends of RAM: `SP` one above the last RAM byte, and two above the first. -/
theorem witness_ReturnFromInterruptResumes :
    ∀ sp ∈ [(0x4002 : Word), 0x5000, 0xD000],
      let c : Cpu := { start with iff1 := true, sp := sp }
      c.iff1 = true ∧ c.eiDelay = false ∧ ∀ k ∈ [(1 : Word), 2], ∃ j, readTarget (c.sp - k) = .ram j := by
  intro sp h c
  fin_cases h <;> refine ⟨rfl, rfl, fun k hk => ?_⟩ <;> fin_cases hk <;>
    first | exact ⟨0, by decide⟩ | exact ⟨1, by decide⟩ | exact ⟨4094, by decide⟩ | exact ⟨4095, by decide⟩

/-- The last cycle below F, and F itself. -/
theorem witness_FrameBoundaryAfterEveryFCycles :
    51195 + 4 < 51200 ∧ ¬(51196 + 4 < 51200) := by decide

theorem witness_AdvanceRunsTheCyclesOwed :
    ∀ acc ∈ [(-41000 : Int), 0, 999],
      let s : State := { example1 with sched := { Sched.reset with cycleAcc := acc } }
      s.table = .main ∧ -41000 ≤ s.sched.cycleAcc ∧ s.sched.cycleAcc < 1000 := by
  intro acc h s
  fin_cases h <;> exact ⟨rfl, by decide, by decide⟩

theorem witness_ScreenFlipMirrorsThePicture : 0 < 224 ∧ 223 < 224 ∧ 0 < 288 ∧ 287 < 288 := by decide

/-- The corners of the three zones of `CellOffset` (R575), with every sprite out of the picture. -/
theorem witness_ComposeShowsTheTile :
    example1.bus.flipScreen = false ∧
      ∀ tx ∈ [0, 27], ∀ ty ∈ [0, 1, 2, 33, 34, 35], ∀ px ∈ [0, 7], ∀ py ∈ [0, 7],
        tx < 28 ∧ ty < 36 ∧ px < 8 ∧ py < 8 ∧
          ∀ k, k < 8 → example1.spritePixelAt k (8 * tx + px) (8 * ty + py) = none := by decide

/-- Sprite 7 alone in the picture, one opaque pixel in its lower left corner, at the lower right corner of the
picture. -/
def example2 : State :=
  withBus { example1 with roms := { Roms.none with sprite := imageAt _ 39 [0x11] } }
    { Bus.reset with spritePos := [(14, 16)] }

/-- The clauses in numbers, at both ends of their ranges. -/
theorem witness_LowerSpritesAreInFront_bounds :
    ∀ p ∈ [0, 3, 4, 7, 8, 11, 12, 15], p < 16 ∧ 0 < 64 ∧ 63 < 64 ∧ 7 < 8 ∧ 223 < 224 ∧ 287 < 288 := by decide

theorem witness_LowerSpritesAreInFront :
    example2.bus.flipScreen = false ∧ example2.spritePixelAt 7 223 287 = some { red := 0, green := 0, blue := 0 } ∧
      ∀ j, j < 7 → example2.spritePixelAt j 223 287 = none := by decide

theorem witness_AudioRegistersTakeNibbles : 0 < 32 ∧ 0x15 + 1 < 32 ∧ 31 < 32 ∧ 4 < 5 := by decide

theorem witness_MuteKeepsThePhases : true = true ∨ (true = false) := by decide

end Sys2Proof.Tests
end

section
/-! PROOFS. What an instruction, a CPU step and the frame accounting can do to the machine, said once. -/

namespace Sys2Proof.Machine

/-! ### The bare prefixes (R141, R143) -/

/-- Is `i` a PREFIX row, which selects a table and is no instruction by itself (R141, R143)? -/
def selectsTable (i : Instr) : Bool :=
  match i with
  | .prefixCb | .prefixEd | .prefixDd | .prefixFd | .prefixDdCb | .prefixFdCb => true
  | _ => false

/-- A PREFIX row is not well-formed (R143). -/
theorem selectsTable_of_wellFormed (i : Instr) (h : wellFormed i = true) : selectsTable i = false := by
  unfold selectsTable
  split
  case h_7 => rfl
  all_goals cases h

theorem selectsTable_pick (i : Index) (x y : Instr) (hx : selectsTable x = false) (hy : selectsTable y = false) :
    selectsTable (i.pick x y) = false := by
  cases i
  · exact hx
  · exact hy

section

variable (p : Pass) (i : Index) (y : Nat) (r : Reg8) (op d b1 b2 b3 : Byte)

theorem selectsTable_decodeAluR : selectsTable (decodeAluR p y r) = false := by
  unfold decodeAluR; split <;> rfl
theorem selectsTable_decodeAluHl : selectsTable (decodeAluHl y) = false := by
  unfold decodeAluHl; split <;> rfl
theorem selectsTable_decodeAluN : selectsTable (decodeAluN p y d) = false := by
  unfold decodeAluN; split <;> rfl
theorem selectsTable_decodeAluXyd : selectsTable (decodeAluXyd i y d) = false := by
  unfold decodeAluXyd; split <;> exact selectsTable_pick i _ _ rfl rfl
theorem selectsTable_decodeAluXh : selectsTable (decodeAluXh i y) = false := by
  unfold decodeAluXh; split <;> exact selectsTable_pick i _ _ rfl rfl
theorem selectsTable_decodeAluXl : selectsTable (decodeAluXl i y) = false := by
  unfold decodeAluXl; split <;> exact selectsTable_pick i _ _ rfl rfl
theorem selectsTable_decodeRotR : selectsTable (decodeRotR y r) = false := by
  unfold decodeRotR; split <;> rfl
theorem selectsTable_decodeRotHl : selectsTable (decodeRotHl y) = false := by
  unfold decodeRotHl; split <;> rfl
theorem selectsTable_decodeRotXyd : selectsTable (decodeRotXyd i y d) = false := by
  unfold decodeRotXyd; split <;> exact selectsTable_pick i _ _ rfl rfl
theorem selectsTable_decodeRotXydR : selectsTable (decodeRotXydR i y d r) = false := by
  unfold decodeRotXydR; split <;> exact selectsTable_pick i _ _ rfl rfl

/-- Each quarter of the main table but the last holds no prefix byte (R145). -/
theorem selectsTable_decodeMain0 : selectsTable (decodeMain0 p op b1 b2) = false := by
  unfold decodeMain0
  split <;> split <;> rfl

theorem selectsTable_decodeMain1 : selectsTable (decodeMain1 p op) = false := by
  unfold decodeMain1
  split <;> split <;> rfl

theorem selectsTable_decodeMain2 : selectsTable (decodeMain2 p op) = false := by
  unfold decodeMain2
  split
  · exact selectsTable_decodeAluHl _
  · exact selectsTable_decodeAluR _ _ _

theorem isPrefixByte_eq_false (hcb : op ≠ 0xCB) (hed : op ≠ 0xED) (hdd : op ≠ 0xDD) (hfd : op ≠ 0xFD) :
    isPrefixByte op = false :=
  decide_eq_false fun h => by
    rcases h with h | h | h | h
    · exact hcb h
    · exact hed h
    · exact hdd h
    · exact hfd h

/-- An opcode byte that is no prefix names none of the four PREFIX rows. -/
theorem not_prefixByte_fields (h : isPrefixByte op = false) (h0 : fieldX op ≠ 0) (h1 : fieldX op ≠ 1)
    (h2 : fieldX op ≠ 2) :
    (fieldZ op = 3 → fieldY op ≠ 1) ∧ (fieldZ op = 5 → fieldQ op ≠ 0 → fieldP op = 0) := by
  revert op
  decide +kernel

/-- The last quarter of the main table holds the prefix bytes, and no other PREFIX row (R145). -/
theorem selectsTable_decodeMain3 (h : isPrefixByte op = false) (h0 : fieldX op ≠ 0) (h1 : fieldX op ≠ 1)
    (h2 : fieldX op ≠ 2) : selectsTable (decodeMain3 p op b1 b2) = false := by
  obtain ⟨hcb, hxy⟩ := not_prefixByte_fields op h h0 h1 h2
  unfold decodeMain3
  split
  case h_2 =>
    split
    · rfl
    · split <;> rfl
  case h_4 hz =>
    split
    case h_2 hy => exact absurd hy (hcb hz)
    all_goals rfl
  case h_6 hz =>
    split
    · rfl
    · rw [hxy hz ‹_›]; rfl
  case h_7 => exact selectsTable_decodeAluN _ _ _
  all_goals rfl

/-- Only a prefix byte decodes to a PREFIX row in the main table (R141, R145). -/
theorem selectsTable_decodeMain (h : isPrefixByte op = false) : selectsTable (decodeMain p op b1 b2) = false := by
  unfold decodeMain
  split
  · exact selectsTable_decodeMain0 _ _ _ _
  · exact selectsTable_decodeMain1 _ _
  · exact selectsTable_decodeMain2 _ _
  · exact selectsTable_decodeMain3 _ _ _ _ h ‹_› ‹_› ‹_›

theorem selectsTable_decodeCb : selectsTable (decodeCb op) = false := by
  unfold decodeCb
  dsimp only
  split
  · split
    case h_1 => exact selectsTable_decodeRotHl _
    all_goals rfl
  · split
    case h_1 => exact selectsTable_decodeRotR _ _
    all_goals rfl

theorem selectsTable_decodeEd1 : selectsTable (decodeEd1 op b2 b3) = false := by
  unfold decodeEd1
  split
  case h_5 => rfl
  all_goals split <;> rfl

theorem selectsTable_decodeEd2 : selectsTable (decodeEd2 op) = false := by
  unfold decodeEd2
  split <;> rfl

theorem selectsTable_decodeEd : selectsTable (decodeEd op b2 b3) = false := by
  unfold decodeEd
  split
  · exact selectsTable_decodeEd1 _ _ _
  · exact selectsTable_decodeEd2 _
  · rfl

theorem selectsTable_decodeXyCb : selectsTable (decodeXyCb i d op) = false := by
  unfold decodeXyCb
  dsimp only
  split
  · split
    · exact selectsTable_decodeRotXyd _ _ _
    · exact selectsTable_decodeRotXydR _ _ _ _
  · exact selectsTable_pick i _ _ rfl rfl
  · split <;> exact selectsTable_pick i _ _ rfl rfl
  · split <;> exact selectsTable_pick i _ _ rfl rfl

theorem selectsTable_decodeXy0 (h : isPrefixByte op = false) : selectsTable (decodeXy0 i op b1 b2) = false := by
  have main := selectsTable_decodeMain i.pass op b1 b2 h
  unfold decodeXy0
  dsimp only
  split
  case h_1 => split_ifs <;> first | exact main | exact selectsTable_pick i _ _ rfl rfl
  case h_7 => exact main
  all_goals split <;> first | exact main | exact selectsTable_pick i _ _ rfl rfl

theorem selectsTable_decodeXy1 (h : isPrefixByte op = false) : selectsTable (decodeXy1 i op b1 b2) = false := by
  have main := selectsTable_decodeMain i.pass op b1 b2 h
  unfold decodeXy1
  dsimp only
  split_ifs <;> first | exact main | exact selectsTable_pick i _ _ rfl rfl

theorem selectsTable_decodeXy2 (h : isPrefixByte op = false) : selectsTable (decodeXy2 i op b1 b2) = false := by
  unfold decodeXy2
  split
  · exact selectsTable_decodeAluXh _ _
  · exact selectsTable_decodeAluXl _ _
  · exact selectsTable_decodeAluXyd _ _ _
  · exact selectsTable_decodeMain _ _ _ _ h

theorem selectsTable_decodeXy3 (h : isPrefixByte op = false) : selectsTable (decodeXy3 i op b1 b2) = false := by
  have main := selectsTable_decodeMain i.pass op b1 b2 h
  unfold decodeXy3
  dsimp only
  split <;> first | exact main | exact selectsTable_pick i _ _ rfl rfl

/-- After an index prefix, too, only a prefix byte decodes to a PREFIX row (R150). -/
theorem selectsTable_decodeXy (h : isPrefixByte op = false) : selectsTable (decodeXy i op b1 b2) = false := by
  unfold decodeXy
  split
  · exact selectsTable_decodeXy0 _ _ _ _ h
  · exact selectsTable_decodeXy1 _ _ _ _ h
  · exact selectsTable_decodeXy2 _ _ _ _ h
  · exact selectsTable_decodeXy3 _ _ _ _ h

theorem selectsTable_decodeIndexed : selectsTable (decodeIndexed i b1 b2 b3) = false := by
  unfold decodeIndexed
  split_ifs
  · exact selectsTable_pick i _ _ rfl rfl
  · exact selectsTable_pick i _ _ rfl rfl
  · exact selectsTable_pick i _ _ rfl rfl
  · exact selectsTable_decodeXyCb _ _ _
  · exact selectsTable_decodeXy _ _ _ _ (isPrefixByte_eq_false _ ‹_› ‹_› ‹_› ‹_›)

/-- No four bytes decode to a bare prefix (R141, R143; log 8). -/
theorem selectsTable_decode4 (b0 : Byte) : selectsTable (decode4 b0 b1 b2 b3) = false := by
  unfold decode4
  split_ifs
  · exact selectsTable_decodeCb _
  · exact selectsTable_decodeEd _ _ _
  · exact selectsTable_decodeIndexed _ _ _ _
  · exact selectsTable_decodeIndexed _ _ _ _
  · exact selectsTable_decodeMain _ _ _ _ (isPrefixByte_eq_false _ ‹_› ‹_› ‹_› ‹_›)

end

/-! ### The effects an instruction can have -/

/-- What an instruction may do besides giving the CPU new contents, drawing free values and charging cycles: nothing,
one bus write, two bus writes, or one byte to the interrupt vector (R91, R121). -/
inductive State.Effect (s : State) : State → Prop
  /-- nothing outside the CPU -/
  | cpu (c : Cpu) (draws n : Nat) : s.Effect { s with cpu := c, draws := draws, cycles := n }
  /-- one bus write -/
  | store (a : Word) (v : Byte) (c : Cpu) (draws n : Nat) :
      s.Effect { s.busWrite a v with cpu := c, draws := draws, cycles := n }
  /-- two bus writes -/
  | storeTwo (a1 : Word) (v1 : Byte) (a2 : Word) (v2 : Byte) (c : Cpu) (draws n : Nat) :
      s.Effect { (s.busWrite a1 v1).busWrite a2 v2 with cpu := c, draws := draws, cycles := n }
  /-- a port write -/
  | port (v : Byte) (c : Cpu) (n : Nat) :
      s.Effect { s with cpu := c, bus := { s.bus with intVector := v }, cycles := n }

namespace State.Effect

variable {s t : State}

/-- The effect is the same whatever the CPU and the cycles become afterwards. -/
theorem withCpuAfter (h : s.Effect t) (c : Cpu) (n : Nat) : s.Effect { t with cpu := c, cycles := n } := by
  cases h with
  | cpu => exact .cpu ..
  | store => exact .store ..
  | storeTwo => exact .storeTwo ..
  | port => exact .port ..

/-- The effect does not depend on the CPU the instruction begins with: a bus write does not look at it. -/
theorem withCpuBefore {c : Cpu} (h : ({ s with cpu := c } : State).Effect t) : s.Effect t := by
  cases h with
  | cpu => exact .cpu ..
  | store a v d draws n =>
    rw [State.busWrite_withCpu]
    exact .store a v d draws n
  | storeTwo a1 v1 a2 v2 d draws n =>
    simp only [State.busWrite_withCpu]
    exact .storeTwo a1 v1 a2 v2 d draws n
  | port => exact .port ..

/-- No effect reaches the ScreenBuffer, the scheduler or the table selection. -/
theorem rest (h : s.Effect t) : t.screen = s.screen ∧ t.sched = s.sched ∧ t.table = s.table := by
  cases h <;> simp

end State.Effect

/-- One iteration of a block transfer is one bus write. -/
theorem State.blockLoad_effect (s : State) (d : Dir) : s.Effect (s.blockLoad d) := by
  obtain ⟨h, -⟩ := s.blockLoad_spec d
  rw [h]
  exact .store _ _ _ (s.busWrite s.de (s.busRead s.hl)).draws (s.busWrite s.de (s.busRead s.hl)).cycles

/-- One iteration of a block search changes the CPU only. -/
theorem State.blockCompare_effect (s : State) (d : Dir) : s.Effect (s.blockCompare d) := by
  obtain ⟨h, -⟩ := s.blockCompare_spec d
  rw [h]
  exact .cpu _ s.draws s.cycles

/-- One iteration of a block input is one bus write. -/
theorem State.blockIn_effect (s : State) (d : Dir) : s.Effect (s.blockIn d) := by
  obtain ⟨h, -⟩ := s.blockIn_spec d
  rw [h]
  exact .store _ _ _ _ (s.busWrite s.hl (s.ioRead s.bc)).cycles

/-- One iteration of a block output is one port write. -/
theorem State.blockOut_effect (s : State) (d : Dir) : s.Effect (s.blockOut d) := by
  obtain ⟨h, -⟩ := s.blockOut_spec d
  rw [h]
  exact .port _ _ s.cycles

/-- The return from an interrupt changes the CPU only. -/
theorem State.returnFromInterrupt_effect (s : State) : s.Effect s.returnFromInterrupt := by
  rw [State.returnFromInterrupt_eq]
  exact .cpu _ s.draws s.cycles

/-! ### What every instruction answers (R160, R500) -/

/-- The answer is a next state, with one of the effects above, at a cost of 4 to 23 cycles. -/
def State.Answers (s : State) (res : Result) : Prop :=
  ∃ t, res = .next t ∧ s.Effect t ∧ 4 ≤ t.cycles ∧ t.cycles ≤ 23

/-- An index prefix without effect adds at most 4 cycles (R323). -/
theorem pass_cost_bounds (p : Pass) {k : Nat} (h1 : 4 ≤ k) (h2 : k ≤ 19) : 4 ≤ k + p.extra ∧ k + p.extra ≤ 23 := by
  have h : p.extra ≤ 4 := by cases p <;> decide
  omega

namespace State.Answers

variable {s t : State} {n : Nat}

theorem done (h : s.Effect t) (hn : 4 ≤ n ∧ n ≤ 23) : s.Answers (.next (t.done n)) :=
  ⟨_, rfl, h.withCpuAfter t.cpu n, hn⟩

/-- The end of an iteration of a repeating block instruction costs 21 or 16 (R266). -/
theorem repeatIf (h : s.Effect t) (again : Bool) : s.Answers (.next (t.repeatIf again)) := by
  cases again with
  | true => exact ⟨_, rfl, h.withCpuAfter _ 21, (by decide : 4 ≤ 21 ∧ 21 ≤ 23)⟩
  | false => exact ⟨_, rfl, h.withCpuAfter t.cpu 16, (by decide : 4 ≤ 16 ∧ 16 ≤ 23)⟩

theorem ite {p : Prop} [Decidable p] {x y : Result} (hx : s.Answers x) (hy : s.Answers y) :
    s.Answers (if p then x else y) := by
  split
  · exact hx
  · exact hy

end State.Answers

/-- A conditional jump gives `PC` one of two values (R421). -/
theorem exec_jpCcNn_eq (p : Pass) (cc : Cond) (nn : Word) (s : State) :
    exec (.jpCcNn p cc nn) s = .next ((s.setPc (if s.holds cc then nn else s.cpu.pc)).done (10 + p.extra)) := by
  show execJpCcNn p cc nn s = _
  unfold execJpCcNn
  split <;> rfl

/-- Every instruction but a bare prefix answers a next state, with one of the effects above, at a cost of 4 to 23
cycles (R160, R500, R660). -/
theorem exec_answers (i : Instr) (s : State) (hi : selectsTable i = false) : s.Answers (exec i s) := by
  cases i with
  | nop p | exAfAf p | jrE p _ | ldDdNn p _ _ | ldABc p | ldADe p | ldANn p _ | incSs p _ | decSs p _ | incR p _
  | decR p _ | ldRN p _ _ | rlca p | rrca p | rla p | rra p | daa p | cpl p | scf p | ccf p | ldRR p _ _ | halt p
  | addAR p _ | addAN p _ | adcAR p _ | adcAN p _ | subR p _ | subN p _ | sbcAR p _ | sbcAN p _ | andR p _
  | andN p _ | xorR p _ | xorN p _ | orR p _ | orN p _ | cpR p _ | cpN p _ | popQq p _ | ret p | exx p | jpNn p _
  | inAN p _ | exDeHl p | di p | ei p => exact .done (.cpu ..) (pass_cost_bounds p (by decide) (by decide))
  | addHlSs _ | ldHlNn _ | ldRHl _ | rlcR _ | rrcR _ | rlR _ | rrR _ | slaR _ | sraR _ | sllR _ | srlR _
  | bitR _ _ | bitHl _ | resR _ _ | setR _ _ | inRC _ | sbcHlSs _ | adcHlSs _ | ldDdMem _ _ | neg _ | im0 _
  | im1 _ | im2 _ | nopEd _ | ldIxNn _ | ldIxMem _ | addIxPp _ | ldIxhN _ | ldIxlN _ | ldRIxd _ _ | ldRIxHalf _ _
  | addAIxd _ | adcAIxd _ | subIxd _ | sbcAIxd _ | andIxd _ | xorIxd _ | orIxd _ | cpIxd _ | ldIyNn _ | ldIyMem _
  | addIyPp _ | ldIyhN _ | ldIylN _ | ldRIyd _ _ | ldRIyHalf _ _ | addAIyd _ | adcAIyd _ | subIyd _ | sbcAIyd _
  | andIyd _ | xorIyd _ | orIyd _ | cpIyd _ | bitIxd _ _ _ | bitIyd _ _ _ | addAHl | adcAHl | subHl | sbcAHl
  | andHl | xorHl | orHl | cpHl | jpHl | ldSpHl | inC | ldIA | ldRA | ldAI | ldAR | incIx | decIx | incIxh
  | decIxh | incIxl | decIxl | addAIxh | addAIxl | adcAIxh | adcAIxl | subIxh | subIxl | sbcAIxh | sbcAIxl
  | andIxh | andIxl | xorIxh | xorIxl | orIxh | orIxl | cpIxh | cpIxl | popIx | jpIx | ldSpIx | aloneDdDd
  | aloneDdEd | aloneDdFd | incIy | decIy | incIyh | decIyh | incIyl | decIyl | addAIyh | addAIyl | adcAIyh
  | adcAIyl | subIyh | subIyl | sbcAIyh | sbcAIyl | andIyh | andIyl | xorIyh | xorIyl | orIyh | orIyl | cpIyh
  | cpIyl | popIy | jpIy | ldSpIy | aloneFdDd | aloneFdEd | aloneFdFd => exact .done (.cpu ..) (by decide)
  | ldBcA p | ldDeA p | ldNnA p _ => exact .done (.store ..) (pass_cost_bounds p (by decide) (by decide))
  | ldHlN _ | ldHlR _ | resHl _ | setHl _ | incIxd _ | decIxd _ | ldIxdN _ _ | ldIxdR _ _ | incIyd _ | decIyd _
  | ldIydN _ _ | ldIydR _ _ | rlcIxd _ | rlcIxdR _ _ | rrcIxd _ | rrcIxdR _ _ | rlIxd _ | rlIxdR _ _ | rrIxd _
  | rrIxdR _ _ | slaIxd _ | slaIxdR _ _ | sraIxd _ | sraIxdR _ _ | sllIxd _ | sllIxdR _ _ | srlIxd _
  | srlIxdR _ _ | resIxd _ _ | resIxdR _ _ _ | setIxd _ _ | setIxdR _ _ _ | rlcIyd _ | rlcIydR _ _ | rrcIyd _
  | rrcIydR _ _ | rlIyd _ | rlIydR _ _ | rrIyd _ | rrIydR _ _ | slaIyd _ | slaIydR _ _ | sraIyd _ | sraIydR _ _
  | sllIyd _ | sllIydR _ _ | srlIyd _ | srlIydR _ _ | resIyd _ _ | resIydR _ _ _ | setIyd _ _ | setIydR _ _ _
  | incHl | decHl | rlcHl | rrcHl | rlHl | rrHl | slaHl | sraHl | sllHl | srlHl | rrd | rld =>
    exact .done (.store ..) (by decide)
  | pushQq p _ | callNn p _ | rst p _ => exact .done (.storeTwo ..) (pass_cost_bounds p (by decide) (by decide))
  | ldNnHl _ | ldMemDd _ _ | ldMemIx _ | ldMemIy _ | exSpHl | pushIx | exSpIx | pushIy | exSpIy =>
    exact .done (.storeTwo ..) (by decide)
  | outNA p _ => exact .done (.port ..) (pass_cost_bounds p (by decide) (by decide))
  | outCR _ | outC0 => exact .done (.port ..) (by decide)
  | ldIxHalfR h _ | ldIyHalfR h _ => cases h <;> exact .done (.cpu ..) (by decide)
  | jpCcNn p cc nn =>
    rw [exec_jpCcNn_eq]
    exact .done (.cpu ..) (pass_cost_bounds p (by decide) (by decide))
  | djnz p _ | jrCcE p _ _ | retCc p _ =>
    exact .ite (.done (.cpu ..) (pass_cost_bounds p (by decide) (by decide)))
      (.done (.cpu ..) (pass_cost_bounds p (by decide) (by decide)))
  | callCcNn p _ _ =>
    exact .ite (.done (.storeTwo ..) (pass_cost_bounds p (by decide) (by decide)))
      (.done (.cpu ..) (pass_cost_bounds p (by decide) (by decide)))
  | reti | retn _ => exact .done s.returnFromInterrupt_effect (by decide)
  | ldi => exact .done (s.blockLoad_effect .up) (by decide)
  | ldd => exact .done (s.blockLoad_effect .down) (by decide)
  | cpi => exact .done (s.blockCompare_effect .up) (by decide)
  | cpd => exact .done (s.blockCompare_effect .down) (by decide)
  | ini => exact .done (s.blockIn_effect .up) (by decide)
  | ind => exact .done (s.blockIn_effect .down) (by decide)
  | outi => exact .done (s.blockOut_effect .up) (by decide)
  | outd => exact .done (s.blockOut_effect .down) (by decide)
  | ldir => exact .repeatIf (s.blockLoad_effect .up) _
  | lddr => exact .repeatIf (s.blockLoad_effect .down) _
  | cpir => exact .repeatIf (s.blockCompare_effect .up) _
  | cpdr => exact .repeatIf (s.blockCompare_effect .down) _
  | inir => exact .repeatIf (s.blockIn_effect .up) _
  | indr => exact .repeatIf (s.blockIn_effect .down) _
  | otir => exact .repeatIf (s.blockOut_effect .up) _
  | otdr => exact .repeatIf (s.blockOut_effect .down) _
  | prefixCb | prefixEd | prefixDd | prefixFd | prefixDdCb | prefixFdCb => cases hi
/-! ### What a CPU step answers (R320, R321) -/

/-- In the main table the next instruction is what the four bytes at `PC` decode to, and never a bare prefix. -/
theorem State.selectsTable_fetchInstr (s : State) (h : s.table = .main) : selectsTable s.fetchInstr = false := by
  unfold State.fetchInstr State.fetchBytes
  rw [h]
  exact selectsTable_decode4 _ _ _ _

/-- In the main table a fetch changes the CPU only. -/
theorem State.fetched_eq (s : State) (i : Instr) (h : s.table = .main) :
    s.fetched i = { s with cpu := (s.fetched i).cpu } := by
  unfold State.fetched
  rw [← h]

/-- In the main table a CPU step goes on, with the effect of one instruction, at a cost of 4 to 23 cycles. -/
theorem State.cpuStep_effect (s : State) (h : s.table = .main) :
    ∃ u, s.cpuStep = .next u ∧ s.Effect u ∧ 4 ≤ u.cycles ∧ u.cycles ≤ 23 := by
  by_cases hh : s.cpu.halted = true
  · exact ⟨_, (s.cpuStep_next_iff _).2 (.inl ⟨hh, rfl⟩), .cpu _ s.draws 4, (by decide : 4 ≤ 4 ∧ 4 ≤ 23)⟩
  · obtain ⟨t, ht, heff, hcost⟩ := exec_answers s.fetchInstr (s.fetched s.fetchInstr) (s.selectsTable_fetchInstr h)
    rw [s.fetched_eq _ h] at heff
    refine ⟨_, (s.cpuStep_next_iff _).2 (.inr ⟨by simpa using hh, t, ht, rfl⟩), ?_⟩
    unfold State.endStep
    split
    · exact ⟨heff.withCpuBefore, hcost⟩
    · exact ⟨heff.withCpuBefore.withCpuAfter _ t.cycles, hcost⟩

/-! ### What the frame accounting can do (R520 to R523) -/

/-- An interrupt delivery costs 0, 13 or 19 cycles (R510, R522). -/
theorem State.deliver_cost (s : State) : s.deliver.2 ≤ 19 := by
  unfold State.deliver
  split
  · have := s.raiseInterrupt_cost s.bus.intVector
    omega
  · exact Nat.zero_le _

/-- An interrupt delivery has the effect of at most two bus writes, the push of `PC`, and charges nothing by itself. -/
theorem State.deliver_effect (s : State) : s.Effect s.deliver.1 ∧ s.deliver.1.cycles = s.cycles := by
  have same : s.Effect s := .cpu s.cpu s.draws s.cycles
  unfold State.deliver
  split
  · by_cases h : s.cpu.iff1 = false ∨ s.cpu.eiDelay = true
    · rw [s.raiseInterrupt_refused _ h]
      exact ⟨same, rfl⟩
    · simp only [not_or, Bool.not_eq_false, Bool.not_eq_true] at h
      refine ⟨?_, (s.raiseInterrupt_rest _).2.2.2.2.1⟩
      rw [s.raiseInterrupt_accepted _ h.1 h.2]
      exact .storeTwo _ _ _ _ _ (State.draws _) (State.cycles _)
  · exact ⟨same, rfl⟩

/-- The audio flush changes the audio part and `sample_acc` (R523). -/
theorem State.flushAudio_eq (s : State) :
    s.flushAudio =
      { s with audio := s.flushAudio.audio, sched := { s.sched with sampleAcc := s.sched.owedUnits % 120 } } := by
  unfold State.flushAudio
  rw [State.pushSamples_eq]
  rfl

/-- The audio flush keeps the absent nibbles 0 (R601). -/
theorem State.flushAudio_nibbles (s : State) (h : s.audio.NibblesAbsent) : s.flushAudio.audio.NibblesAbsent := by
  unfold State.flushAudio
  exact State.pushSamples_nibbles _ _ h

/-- The frame boundary is an interrupt delivery, after which only the ScreenBuffer, the audio part and `sample_acc`
change: the compose writes a canonical ScreenBuffer, samples keep the absent nibbles (R523). -/
theorem State.frameBoundary_eq (s : State) : ∃ (screen : Memory) (audio : Audio),
    s.frameBoundary.1 =
      { s.deliver.1 with
        screen := screen
        audio := audio
        sched := { s.deliver.1.sched with sampleAcc := s.deliver.1.sched.owedUnits % 120 } } ∧
    screen.wfBelow 193536 ∧ (s.deliver.1.audio.NibblesAbsent → audio.NibblesAbsent) := by
  have hwf := s.deliver.1.compose_screen_wf
  obtain ⟨screen, hscreen⟩ := s.deliver.1.compose_rest
  unfold State.frameBoundary
  rw [hscreen] at hwf ⊢
  exact ⟨screen, _, State.flushAudio_eq _, hwf,
    fun hn => State.flushAudio_nibbles { s.deliver.1 with screen := screen } hn⟩

/-- The state with another frame counter: with the excess over F carried, it enters the frame boundary (R520). -/
def State.withFrameCyc (s : State) (n : Nat) : State := { s with sched := { s.sched with frameCyc := n } }

/-- The accounting with an excess of `n` cycles over F is the frame boundary of the state that carries it (R520). -/
theorem State.account_excess (s : State) (n : Nat) (h : s.sched.frameCyc + s.cycles = 51200 + n) :
    s.account =
      { (s.withFrameCyc n).frameBoundary.1 with
        sched := { (s.withFrameCyc n).frameBoundary.1.sched with
          frameCyc := (s.withFrameCyc n).frameBoundary.1.sched.frameCyc + (s.withFrameCyc n).deliver.2 }
        cycles := s.cycles + (s.withFrameCyc n).deliver.2 } := by
  have hn : s.sched.frameCyc + s.cycles - 51200 = n := by omega
  rw [s.account_at (by omega), hn]
  rfl

/-- The accounting with an excess of `n` cycles, as an interrupt delivery after which only the ScreenBuffer, the audio
part, the two counters and the cycles charged change (R520, R523). -/
theorem State.account_boundary (s : State) (n : Nat) (h : s.sched.frameCyc + s.cycles = 51200 + n) :
    ∃ (screen : Memory) (audio : Audio),
      s.account =
        { (s.withFrameCyc n).deliver.1 with
          screen := screen
          audio := audio
          sched := { s.sched with
            frameCyc := n + (s.withFrameCyc n).deliver.2
            sampleAcc := s.sched.owedUnits % 120 }
          cycles := s.cycles + (s.withFrameCyc n).deliver.2 } ∧
      screen.wfBelow 193536 ∧ ((s.withFrameCyc n).deliver.1.audio.NibblesAbsent → audio.NibblesAbsent) := by
  obtain ⟨screen, audio, hboundary, hwf, hkeep⟩ := (s.withFrameCyc n).frameBoundary_eq
  obtain ⟨-, hsched, -⟩ := (s.withFrameCyc n).deliver_effect.1.rest
  refine ⟨screen, audio, ?_, hwf, hkeep⟩
  rw [s.account_excess n h, hboundary, hsched]
  rfl

/-- The accounting leaves the cycles owed and the table selection alone, and adds the cost of an interrupt entry at
most (R520). -/
theorem State.account_rest (s : State) :
    s.account.table = s.table ∧ s.account.sched.cycleAcc = s.sched.cycleAcc ∧
      s.cycles ≤ s.account.cycles ∧ s.account.cycles ≤ s.cycles + 19 := by
  by_cases hb : s.sched.frameCyc + s.cycles < 51200
  · rw [s.account_below hb]
    exact ⟨rfl, rfl, le_rfl, Nat.le_add_right _ _⟩
  · obtain ⟨n, hn⟩ := Nat.exists_eq_add_of_le (not_lt.1 hb)
    obtain ⟨screen, audio, haccount, -, -⟩ := s.account_boundary n hn
    obtain ⟨-, -, htable⟩ := (s.withFrameCyc n).deliver_effect.1.rest
    rw [haccount]
    exact ⟨htable, rfl, Nat.le_add_right _ _, Nat.add_le_add_left (State.deliver_cost _) _⟩

/-! ### The part of the invariant that bus writes touch -/

/-- RAM and the sprite-position table are canonical and inside their devices, the absent nibbles are 0 (R40, R41,
R601): the fields of `State.Inv` that an instruction can write. -/
structure State.Canonical (s : State) : Prop where
  ram : s.bus.ram.wfBelow 4096
  sprites : s.bus.spritePos.wfBelow 16
  nibbles : s.audio.NibblesAbsent

theorem State.Canonical.busWrite {s : State} (h : s.Canonical) (a : Word) (v : Byte) : (s.busWrite a v).Canonical :=
  ⟨s.busWrite_ram_wf a v h.ram, s.busWrite_spritePos_wf a v h.sprites, s.busWrite_nibbles a v h.nibbles⟩

theorem State.Inv.canonical {s : State} (h : s.Inv) : s.Canonical := ⟨h.ram, h.sprites, h.nibbles⟩

/-- Every effect of an instruction keeps the devices canonical. -/
theorem State.Effect.canonical {s t : State} (h : s.Effect t) (hs : s.Canonical) : t.Canonical := by
  cases h with
  | cpu => exact ⟨hs.ram, hs.sprites, hs.nibbles⟩
  | store a v =>
    have w := hs.busWrite a v
    exact ⟨w.ram, w.sprites, w.nibbles⟩
  | storeTwo a1 v1 a2 v2 =>
    have w := (hs.busWrite a1 v1).busWrite a2 v2
    exact ⟨w.ram, w.sprites, w.nibbles⟩
  | port => exact ⟨hs.ram, hs.sprites, hs.nibbles⟩

/-- The accounting keeps the invariant, wherever the cost of the step stays below F less the cost of an entry. -/
theorem State.account_inv (s : State) (hc : s.Canonical) (hscreen : s.screen.wfBelow 193536)
    (hsample : s.sched.sampleAcc < 120) (hframe : s.sched.frameCyc < 51200) (hcycles : s.cycles ≤ 23)
    (htable : s.table = .main) : s.account.Inv := by
  by_cases hb : s.sched.frameCyc + s.cycles < 51200
  · rw [s.account_below hb]
    exact ⟨hc.ram, hc.sprites, hscreen, Roms.wf _, hc.nibbles, hsample, hb, htable⟩
  · obtain ⟨n, hn⟩ := Nat.exists_eq_add_of_le (not_lt.1 hb)
    obtain ⟨screen, audio, haccount, hwf, hkeep⟩ := s.account_boundary n hn
    have heff := (s.withFrameCyc n).deliver_effect.1
    obtain ⟨hram, hsprites, hnibbles⟩ := heff.canonical ⟨hc.ram, hc.sprites, hc.nibbles⟩
    obtain ⟨-, -, htable'⟩ := heff.rest
    have hcost := (s.withFrameCyc n).deliver_cost
    rw [haccount]
    refine ⟨hram, hsprites, hwf, Roms.wf _, hkeep hnibbles, Nat.mod_lt _ (by decide), ?_, htable'.trans htable⟩
    show n + (s.withFrameCyc n).deliver.2 < 51200
    omega

/-- From the main table every step goes on, to the main table, without touching the cycles owed; it costs 4 to 42
cycles (R520). -/
theorem step_main (s : State) (h : s.table = .main) :
    ∃ t, step s = .next t ∧ t.table = .main ∧ t.sched.cycleAcc = s.sched.cycleAcc ∧ 4 ≤ t.cycles ∧ t.cycles ≤ 42 := by
  obtain ⟨u, hu, heff, hlo, hhi⟩ := s.cpuStep_effect h
  obtain ⟨-, hsched, htable⟩ := heff.rest
  obtain ⟨ht, hacc, hle, hge⟩ := u.account_rest
  refine ⟨u.account, (step_next_iff _ _).2 ⟨u, hu, rfl⟩, ?_, ?_, by omega, by omega⟩
  · rw [ht, htable, h]
  · rw [hacc, hsched]

end Sys2Proof.Machine

end

section
/-! PROOFS. The invariant of the machine (O9, O10) and the power-on values (O11). -/

namespace Sys2Proof.Machine

/-- Settles O9: the CPU step has one of the effects of an instruction, and the accounting keeps the rest. -/
theorem stateInvariantIsKept : Obligations.StateInvariantIsKept := by
  intro s t hinv hstep
  obtain ⟨u, hu, heff, -, hcycles⟩ := s.cpuStep_effect hinv.table
  obtain ⟨v, hv, rfl⟩ := (step_next_iff s t).1 hstep
  obtain rfl : u = v := Host.Outcome.next.inj (hu.symm.trans hv)
  obtain ⟨hscreen, hsched, htable⟩ := heff.rest
  refine u.account_inv (heff.canonical hinv.canonical) ?_ ?_ ?_ hcycles (htable.trans hinv.table)
  · rw [hscreen]
    exact hinv.screen
  · rw [hsched]
    exact hinv.sampleAcc
  · rw [hsched]
    exact hinv.frameCyc

/-- Settles O10: after reset every memory lists nothing and every counter is 0. -/
theorem stateInvariantHoldsAtReset : Obligations.StateInvariantHoldsAtReset :=
  ⟨reset_ram_wf, reset_spritePos_wf, reset_screen_wf, Roms.wf _, ⟨by decide, by decide⟩, by decide, by decide, rfl⟩

/-- An image made from an array of its length reads as that array (R9, R540). -/
theorem Rom.read_ofBytes_of_getElem? (size : Nat) (bytes : List Byte) (h : bytes.length = size) (k : Nat) (b : Byte)
    (hb : bytes[k]? = some b) : (Rom.ofBytes size bytes).read k = b := by
  obtain ⟨hk, -⟩ := List.getElem?_eq_some_iff.1 hb
  rw [Rom.read_ofBytes size bytes k (h ▸ hk), List.getD_eq_getElem?_getD, hb]
  rfl

/-- The power-on values are those of the reset state, whatever the images (R60 to R62). -/
theorem State.powerOn_eq (roms : Roms) : State.powerOn roms = { State.reset with roms := roms } := rfl

/-- Settles O11: creation tests the seven lengths, and the power-on state is the reset state with the images. -/
theorem powerOnValues : Obligations.PowerOnValues := by
  refine ⟨fun x => ?_, fun roms => ?_⟩
  · split
    · next h =>
      have ⟨hprog, htile, hsprite, hcolor, hpalette, hwave1, hwave2⟩ := h
      refine ⟨x.roms, if_pos h, fun k => ⟨?_, ?_, ?_, ?_, ?_, ?_, ?_⟩⟩
      · exact Rom.read_ofBytes_of_getElem? _ _ hprog k
      · exact Rom.read_ofBytes_of_getElem? _ _ htile k
      · exact Rom.read_ofBytes_of_getElem? _ _ hsprite k
      · exact Rom.read_ofBytes_of_getElem? _ _ hcolor k
      · exact Rom.read_ofBytes_of_getElem? _ _ hpalette k
      · exact Rom.read_ofBytes_of_getElem? _ _ hwave1 k
      · exact Rom.read_ofBytes_of_getElem? _ _ hwave2 k
    · next h => exact if_neg h
  · rw [State.powerOn_eq]
    refine ⟨rfl, rfl, rfl, rfl, rfl, rfl, rfl, rfl, rfl, fun k _ => rfl, rfl, rfl, rfl, rfl, fun c hc => ?_, rfl, rfl,
      rfl, rfl, rfl⟩
    fin_cases hc <;> rfl

end Sys2Proof.Machine

end

section
/-! PROOFS. The loop of `advance` (O54): it ends by the test of R524, having paid for exactly the cycles it ran. -/

namespace Sys2Proof.Machine

/-- One pass of the loop of `advance`: at least one cycle is owed, a machine step runs, and its cycles are paid
(R524). -/
def PaidStep (u v : State) : Prop := ∃ w, 1000 ≤ u.sched.cycleAcc ∧ step u = .next w ∧ v = w.pay

/-- `t` is reached from `u` by the passes of the loop through the states `rest`, whose costs are what `t` owes less
than `u`. -/
def PaidRun (u t : State) (rest : List State) : Prop :=
  (u :: rest).getLast? = some t ∧ (u :: rest).IsChain PaidStep ∧
    t.sched.cycleAcc = u.sched.cycleAcc - 1000 * ((rest.map (fun v => v.cycles)).sum : Nat)

/-- No pass at all. -/
theorem PaidRun.refl (u : State) : PaidRun u u [] := ⟨rfl, .singleton u, by simp⟩

/-- A pass before a run. -/
theorem PaidRun.cons {u v t : State} {rest : List State} (h : PaidStep u v)
    (hacc : v.sched.cycleAcc = u.sched.cycleAcc - 1000 * (v.cycles : Int)) (hr : PaidRun v t rest) :
    PaidRun u t (v :: rest) := by
  obtain ⟨hlast, hchain, hsum⟩ := hr
  refine ⟨by rw [List.getLast?_cons_cons, hlast], hchain.cons_cons h, ?_⟩
  rw [hsum, hacc, List.map_cons, List.sum_cons]
  push_cast
  ring

/-- Paying for a step touches the cycles owed only (R524). -/
theorem State.pay_eq (s : State) :
    s.pay = { s with sched := { s.sched with cycleAcc := s.sched.cycleAcc - 1000 * (s.cycles : Int) } } := rfl

/-- One pass of the loop, wherever at least one cycle is owed in the main table: it pays for 4 to 42 cycles. -/
theorem State.runOwed_pass (u : State) (k : Nat) (h : u.table = .main) (howed : 1000 ≤ u.sched.cycleAcc) :
    ∃ v, PaidStep u v ∧ u.runOwed (k + 1) = v.runOwed k ∧ v.table = .main ∧
      v.sched.cycleAcc = u.sched.cycleAcc - 1000 * (v.cycles : Int) ∧ 4 ≤ v.cycles ∧ v.cycles ≤ 42 := by
  obtain ⟨w, hw, htable, hacc, hcost⟩ := step_main u h
  have hrun : u.runOwed (k + 1) = w.pay.runOwed k := by
    have hstep : u.machineStep = .next w := hw
    rw [State.runOwed, if_neg (not_lt.2 howed), hstep]
  refine ⟨w.pay, ⟨w, howed, hw, rfl⟩, hrun, htable, ?_, hcost⟩
  rw [State.pay_eq, ← hacc]

/-- With a bound of at least as many passes as whole cycles are owed, the loop ends by its own test (R524, R525): at
most 41 cycles have run too many, as a step costs at most 42 and begins only where one is owed. -/
theorem State.runOwed_spec (k : Nat) (u : State) (h : u.table = .main) (hlow : -41000 ≤ u.sched.cycleAcc)
    (hbound : u.sched.cycleAcc < 1000 * (k + 1 : Nat)) :
    ∃ t rest, u.runOwed k = .next t ∧ t.table = .main ∧ -41000 ≤ t.sched.cycleAcc ∧ t.sched.cycleAcc < 1000 ∧
      PaidRun u t rest := by
  induction k generalizing u with
  | zero => exact ⟨u, [], rfl, h, hlow, by omega, .refl u⟩
  | succ k ih =>
    by_cases howed : u.sched.cycleAcc < 1000
    · exact ⟨u, [], by rw [State.runOwed, if_pos howed], h, hlow, howed, .refl u⟩
    · obtain ⟨v, hpass, hrun, htable, hacc, hmin, hmax⟩ := u.runOwed_pass k h (not_lt.1 howed)
      obtain ⟨t, rest, ht, hmain, hge, hlt, hpaid⟩ := ih v htable (by omega) (by omega)
      exact ⟨t, v :: rest, hrun.trans ht, hmain, hge, hlt, hpaid.cons hpass hacc⟩

/-- What `advance` owes before its loop (R524), at the clock rate of R8. -/
theorem State.owe_cycleAcc (s : State) (ms : Nat) :
    (s.owe ms).sched.cycleAcc = s.sched.cycleAcc + ms * 3072000 * s.sched.speed.factor := by
  show s.sched.cycleAcc + ((ms * 3072000 * s.sched.speed.factor : Nat) : Int) = _
  push_cast
  rfl

/-- Settles O54: the bound of the loop is the number of whole cycles owed, and every pass pays for at least one. -/
theorem advanceRunsTheCyclesOwed : Obligations.AdvanceRunsTheCyclesOwed := by
  intro s ms htable hlow hhigh
  have howe := s.owe_cycleAcc ms
  have hnonneg : (0 : Int) ≤ ms * 3072000 * s.sched.speed.factor := by positivity
  obtain ⟨t, rest, hrun, hmain, hge, hlt, hlast, hchain, hsum⟩ :=
    State.runOwed_spec ((s.owe ms).sched.cycleAcc / 1000).toNat (s.owe ms) htable (by omega) (by omega)
  refine ⟨t, hrun, hmain, hge, hlt, s.owe ms :: rest, rfl, hlast, hchain, ?_⟩
  rw [hsum, howe, List.tail_cons]

end Sys2Proof.Machine

end

section
/-! PROOFS. The refresh counter (O4). -/

namespace Sys2Proof.Machine

/-- Bit 7 and the low seven bits of `R` after an advance (R18). -/
theorem toNat_incR (r : Byte) (n : Nat) : (incR r n).toNat = r.toNat / 128 * 128 + (r.toNat % 128 + n) % 128 := by
  have hr := r.isLt
  rw [incR_eq, BitVec.toNat_ofNat]
  omega

/-- The prefix bytes of the model are those that the spec lists (R141). -/
theorem isPrefixByte_iff_mem (b : Byte) :
    isPrefixByte b = true ↔ some b ∈ [some (0xCB : Byte), some 0xED, some 0xDD, some 0xFD] := by
  simp [isPrefixByte]

/-- Settles O4: the low seven bits and bit 7 apart; the count looks at the length and at the first byte only. -/
theorem refreshCounterAdvance : Obligations.RefreshCounterAdvance := by
  refine ⟨fun r n => ⟨?_, ?_⟩, fun i _ => ?_⟩
  · have h : bitOf (incR r n) 7 = bitOf r 7 := by
      rw [bitOf_seven, bitOf_seven, toNat_incR, decide_eq_decide]
      omega
    exact h
  · rw [toNat_incR]
    omega
  · unfold refreshCount
    rcases encode i with _ | ⟨b, _ | ⟨c, rest⟩⟩
    · rfl
    · rfl
    · simp only [← isPrefixByte_iff_mem, List.head?_cons, List.length_cons]
      simp

end Sys2Proof.Machine

end

section
/-! PROOFS. The accumulator operations in their nine forms (O27 to O30) and `DAA` (O34). -/

namespace Sys2Proof.Machine

/-! ### The nine forms of an accumulator operation (R290) -/

/-- An operation whose nine instructions apply `op` to their operand at their cost applies it to the operand of every
form. -/
theorem exec_of_mem_aluForms {s : State} {p : Pass} {r : Reg8} {n d : Byte} {reg : Pass → Reg8 → Instr}
    {imm : Pass → Byte → Instr} {hl : Instr} {ixd iyd : Byte → Instr} {ixh ixl iyh iyl : Instr}
    (op : State → Byte → State)
    (hreg : exec (reg p r) s = .next ((op s (s.reg r)).done (4 + p.extra)))
    (himm : exec (imm p n) s = .next ((op s n).done (7 + p.extra)))
    (hhl : exec hl s = .next ((op s (s.busRead s.hl)).done 7))
    (hixd : exec (ixd d) s = .next ((op s (s.busRead (s.idxAddr .ix d))).done 19))
    (hiyd : exec (iyd d) s = .next ((op s (s.busRead (s.idxAddr .iy d))).done 19))
    (hixh : exec ixh s = .next ((op s (s.half .ix .hi)).done 8))
    (hixl : exec ixl s = .next ((op s (s.half .ix .lo)).done 8))
    (hiyh : exec iyh s = .next ((op s (s.half .iy .hi)).done 8))
    (hiyl : exec iyl s = .next ((op s (s.half .iy .lo)).done 8))
    (x : Instr × Byte × Nat) (hx : x ∈ s.aluForms p r n d reg imm hl ixd iyd ixh ixl iyh iyl) :
    exec x.1 s = .next ((op s x.2.1).done x.2.2) := by
  simp only [State.aluForms, List.mem_cons, List.not_mem_nil, or_false] at hx
  rcases hx with rfl | rfl | rfl | rfl | rfl | rfl | rfl | rfl | rfl
  · exact hreg
  · exact himm
  · exact hhl
  · exact hixd
  · exact hiyd
  · exact hixh
  · exact hixl
  · exact hiyh
  · exact hiyl

section

variable (s : State) (p : Pass) (r : Reg8) (n d : Byte) (x : Instr × Byte × Nat)

theorem exec_addForms
    (hx : x ∈ s.aluForms p r n d .addAR .addAN .addAHl .addAIxd .addAIyd .addAIxh .addAIxl .addAIyh .addAIyl) :
    exec x.1 s = .next ((s.aluAdd x.2.1).done x.2.2) :=
  exec_of_mem_aluForms State.aluAdd rfl rfl rfl rfl rfl rfl rfl rfl rfl x hx

theorem exec_adcForms
    (hx : x ∈ s.aluForms p r n d .adcAR .adcAN .adcAHl .adcAIxd .adcAIyd .adcAIxh .adcAIxl .adcAIyh .adcAIyl) :
    exec x.1 s = .next ((s.aluAdc x.2.1).done x.2.2) :=
  exec_of_mem_aluForms State.aluAdc rfl rfl rfl rfl rfl rfl rfl rfl rfl x hx

theorem exec_subForms
    (hx : x ∈ s.aluForms p r n d .subR .subN .subHl .subIxd .subIyd .subIxh .subIxl .subIyh .subIyl) :
    exec x.1 s = .next ((s.aluSub x.2.1).done x.2.2) :=
  exec_of_mem_aluForms State.aluSub rfl rfl rfl rfl rfl rfl rfl rfl rfl x hx

theorem exec_sbcForms
    (hx : x ∈ s.aluForms p r n d .sbcAR .sbcAN .sbcAHl .sbcAIxd .sbcAIyd .sbcAIxh .sbcAIxl .sbcAIyh .sbcAIyl) :
    exec x.1 s = .next ((s.aluSbc x.2.1).done x.2.2) :=
  exec_of_mem_aluForms State.aluSbc rfl rfl rfl rfl rfl rfl rfl rfl rfl x hx

theorem exec_andForms
    (hx : x ∈ s.aluForms p r n d .andR .andN .andHl .andIxd .andIyd .andIxh .andIxl .andIyh .andIyl) :
    exec x.1 s = .next ((s.aluAnd x.2.1).done x.2.2) :=
  exec_of_mem_aluForms State.aluAnd rfl rfl rfl rfl rfl rfl rfl rfl rfl x hx

theorem exec_xorForms
    (hx : x ∈ s.aluForms p r n d .xorR .xorN .xorHl .xorIxd .xorIyd .xorIxh .xorIxl .xorIyh .xorIyl) :
    exec x.1 s = .next ((s.aluXor x.2.1).done x.2.2) :=
  exec_of_mem_aluForms State.aluXor rfl rfl rfl rfl rfl rfl rfl rfl rfl x hx

theorem exec_orForms
    (hx : x ∈ s.aluForms p r n d .orR .orN .orHl .orIxd .orIyd .orIxh .orIxl .orIyh .orIyl) :
    exec x.1 s = .next ((s.aluOr x.2.1).done x.2.2) :=
  exec_of_mem_aluForms State.aluOr rfl rfl rfl rfl rfl rfl rfl rfl rfl x hx

theorem exec_cpForms
    (hx : x ∈ s.aluForms p r n d .cpR .cpN .cpHl .cpIxd .cpIyd .cpIxh .cpIxl .cpIyh .cpIyl) :
    exec x.1 s = .next ((s.aluCp x.2.1).done x.2.2) :=
  exec_of_mem_aluForms State.aluCp rfl rfl rfl rfl rfl rfl rfl rfl rfl x hx

end

/-! ### The four families -/

/-- Settles O27: `ADD` is the sum without, `ADC` the sum with the old carry. -/
theorem additionsToTheAccumulator : Obligations.AdditionsToTheAccumulator := by
  intro s p r n d x hx
  rcases List.mem_append.1 hx with hx | hx <;> obtain ⟨y, hy, rfl⟩ := List.mem_map.1 hx
  · exact ⟨_, exec_addForms s p r n d y hy, s.add_spec y.2.1 false y.2.2⟩
  · exact ⟨_, exec_adcForms s p r n d y hy, s.add_spec y.2.1 s.cpu.cf y.2.2⟩

/-- Settles O28: `SUB` is the difference without, `SBC` the difference with the old carry, `NEG` the one from 0. -/
theorem subtractionsFromTheAccumulator : Obligations.SubtractionsFromTheAccumulator := by
  intro s p r n d y x hx
  rcases List.mem_append.1 hx with hx | hx
  · rcases List.mem_append.1 hx with hx | hx <;> obtain ⟨z, hz, rfl⟩ := List.mem_map.1 hx
    · exact ⟨_, exec_subForms s p r n d z hz, s.sub_spec s.cpu.a z.2.1 false z.2.2⟩
    · exact ⟨_, exec_sbcForms s p r n d z hz, s.sub_spec s.cpu.a z.2.1 s.cpu.cf z.2.2⟩
  · obtain rfl := List.mem_singleton.1 hx
    exact ⟨_, rfl, s.sub_spec 0 s.cpu.a false 8⟩

/-- What O29 says of a logical operation, from the bits of its result `w`. -/
theorem State.logic_bits (s : State) (w v : Byte) (hf : Bool) (n : Nat) (bits : Bool → Bool → Bool)
    (h : ∀ k, k < 8 → w.getLsbD k = bits (s.cpu.a.getLsbD k) (v.getLsbD k)) :
    let t := ((s.setReg .a w).setF (szyxF w hf (parity w) false false)).done n
    CpuOnly s t n ∧ s.cpu.OnlyRegAndFlags t.cpu .a t.cpu.a ∧
      (∀ k, k < 8 → t.cpu.a.getLsbD k = bits (s.cpu.a.getLsbD k) (v.getLsbD k)) ∧
      t.cpu.Shows t.cpu.a ∧ t.cpu.hf = hf ∧ t.cpu.pf = evenOnes t.cpu.a ∧ t.cpu.nf = false ∧ t.cpu.cf = false := by
  obtain ⟨hframe, hreg, hshows, hhf, hpf, hnf, hcf⟩ := s.logic_spec w hf n
  exact ⟨hframe, hreg, h, hshows, hhf, hpf, hnf, hcf⟩

/-- Settles O29: each operation is its bit operation, and the flags are those of its result. -/
theorem logicalOperationsOnTheAccumulator : Obligations.LogicalOperationsOnTheAccumulator := by
  intro s p r n d x hx
  rcases List.mem_append.1 hx with hx | hx
  · rcases List.mem_append.1 hx with hx | hx <;> obtain ⟨y, hy, rfl⟩ := List.mem_map.1 hx
    · exact ⟨_, exec_andForms s p r n d y hy, s.logic_bits _ y.2.1 true y.2.2 and fun k _ => BitVec.getLsbD_and⟩
    · exact ⟨_, exec_xorForms s p r n d y hy, s.logic_bits _ y.2.1 false y.2.2 xor fun k _ => BitVec.getLsbD_xor⟩
  · obtain ⟨y, hy, rfl⟩ := List.mem_map.1 hx
    exact ⟨_, exec_orForms s p r n d y hy, s.logic_bits _ y.2.1 false y.2.2 or fun k _ => BitVec.getLsbD_or⟩

/-- A byte difference is 0 where the bytes are equal. -/
theorem decide_sub_eq_zero (a v : Byte) : decide (a - v = 0) = decide (a = v) := by
  rw [decide_eq_decide]
  exact sub_eq_zero

/-- Settles O30: the flags are those of the difference, but `YF` and `XF`, and nothing else changes. -/
theorem comparisonsKeepTheAccumulator : Obligations.ComparisonsKeepTheAccumulator := by
  intro s p r n d x hx
  obtain ⟨hframe, hcpu, hsf, hzf, hyf, hxf, hhf, hpf, hnf, hcf⟩ := s.aluCp_spec x.2.1 x.2.2
  refine ⟨_, exec_cpForms s p r n d x hx, hframe, hcpu, hsf, hzf.trans (decide_sub_eq_zero _ _), hyf, hxf, hhf, ?_, hnf,
    ?_⟩
  · rw [hpf, sub8_v]
    simp
  · rw [hcf]
    simp [sub8]

/-! ### Decimal adjustment (R327) -/

/-- Bit 4 of a byte, in numbers. -/
theorem bitOf_four (v : Byte) : bitOf v 4 = decide (v.toNat / 16 % 2 = 1) := by
  revert v
  decide +kernel

/-- A sum with a correction of low digit 0 or 6 and high digit 0 or 6 flips bit 4 where it carries out of bit 3. -/
theorem bit_four_add (a low high : Int) (ha : 0 ≤ a) (ha' : a < 256) (hlow : low = 0 ∨ low = 6)
    (hhigh : high = 0 ∨ high = 0x60) :
    (decide (a.toNat / 16 % 2 = 1) ^^ decide (((a + (low + high)) % 256).toNat / 16 % 2 = 1)) =
      decide (16 ≤ a % 16 + low) := by
  rw [Bool.eq_iff_iff, Bool.xor_iff_ne, ne_eq, decide_eq_decide, decide_eq_true_eq]
  rcases hlow with rfl | rfl <;> rcases hhigh with rfl | rfl <;> omega

/-- A difference with such a correction flips bit 4 where it borrows into bit 3. -/
theorem bit_four_sub (a low high : Int) (ha : 0 ≤ a) (ha' : a < 256) (hlow : low = 0 ∨ low = 6)
    (hhigh : high = 0 ∨ high = 0x60) :
    (decide (a.toNat / 16 % 2 = 1) ^^ decide (((a - (low + high)) % 256).toNat / 16 % 2 = 1)) =
      decide (a % 16 < low) := by
  rw [Bool.eq_iff_iff, Bool.xor_iff_ne, ne_eq, decide_eq_decide, decide_eq_true_eq]
  rcases hlow with rfl | rfl <;> rcases hhigh with rfl | rfl <;> omega

/-- The low digit of the correction of `DAA` (R327). -/
def daaLow (c : Cpu) : Int := if c.hf = true ∨ 9 < c.a.toNat % 16 then 6 else 0

/-- The high digit of the correction of `DAA`, at its place (R327). -/
def daaHigh (c : Cpu) : Int := if c.cf = true ∨ 0x99 < c.a.toNat then 0x60 else 0

theorem daaLow_cases (c : Cpu) : daaLow c = 0 ∨ daaLow c = 6 := by
  unfold daaLow
  split
  · exact .inr rfl
  · exact .inl rfl

theorem daaHigh_cases (c : Cpu) : daaHigh c = 0 ∨ daaHigh c = 0x60 := by
  unfold daaHigh
  split
  · exact .inr rfl
  · exact .inl rfl

/-- The correction of `DAA` in numbers. -/
theorem toNat_daaCorrection (c : Cpu) : ((daaCorrection c).toNat : Int) = daaLow c + daaHigh c := by
  unfold daaCorrection daaLow daaHigh
  split_ifs <;> rfl

/-- The result of `DAA` in numbers. -/
theorem daaResult_eq (c : Cpu) :
    daaResult c =
      BitVec.ofInt 8 (if c.nf then c.a.toNat - (daaLow c + daaHigh c) else c.a.toNat + (daaLow c + daaHigh c)) := by
  have ha := c.a.isLt
  have hc := (daaCorrection c).isLt
  rw [← toNat_daaCorrection]
  apply BitVec.eq_of_toNat_eq
  unfold daaResult
  rw [BitVec.toNat_ofInt]
  split_ifs
  · rw [BitVec.toNat_sub]
    omega
  · rw [BitVec.toNat_add]
    omega

/-- `HF` after `DAA`: the carry of the low digit out of bit 3, or its borrow into it. -/
theorem daa_halfCarry (c : Cpu) :
    bitOf (c.a ^^^ daaResult c) 4 =
      (if c.nf then c.hf && decide (c.a.toNat % 16 < 6) else decide (9 < c.a.toNat % 16)) := by
  have ha := c.a.isLt
  have hxor : bitOf (c.a ^^^ daaResult c) 4 = (bitOf c.a 4 ^^ bitOf (daaResult c) 4) := BitVec.getLsbD_xor
  rw [hxor, bitOf_four, bitOf_four, daaResult_eq, BitVec.toNat_ofInt]
  split_ifs
  · refine (bit_four_sub c.a.toNat _ _ (by omega) (by omega) (daaLow_cases c) (daaHigh_cases c)).trans ?_
    unfold daaLow
    cases c.hf with
    | false =>
      simp only [Bool.false_eq_true, false_or, Bool.false_and, decide_eq_false_iff_not]
      split_ifs <;> omega
    | true =>
      simp only [true_or, if_true, Bool.true_and, decide_eq_decide]
      omega
  · refine (bit_four_add c.a.toNat _ _ (by omega) (by omega) (daaLow_cases c) (daaHigh_cases c)).trans ?_
    unfold daaLow
    split_ifs <;> simp <;> omega

/-- Settles O34: result and half-carry in numbers, the other flags from the result. -/
theorem decimalAdjust : Obligations.DecimalAdjust := by
  intro s p
  obtain ⟨hshows, hhf, hpf, hnf, hcf⟩ :=
    shows_szyxF (s.cpu.setReg .a (daaResult s.cpu)) (daaResult s.cpu) (bitOf (s.cpu.a ^^^ daaResult s.cpu) 4)
      (parity (daaResult s.cpu)) s.cpu.nf (s.cpu.cf || decide (s.cpu.a.toNat > 0x99))
  refine ⟨_, rfl, CpuOnly.intro rfl, ?_⟩
  have hr := daaResult_eq s.cpu
  unfold daaLow daaHigh at hr
  rw [← hr]
  refine ⟨Cpu.onlyRegAndFlags_setReg s.cpu .a _ _, hshows, hpf.trans (parity_eq_evenOnes _), hnf, hcf.trans ?_,
    hhf.trans (daa_halfCarry s.cpu)⟩
  simp

end Sys2Proof.Machine

end

section
/-! PROOFS. The 16-bit additions, subtractions and counts (O37, O38). -/

namespace Sys2Proof.Machine

/-! ### Flags of 16-bit arithmetic (R17) -/

/-- The flags of an addition that keeps `SF`, `ZF` and `PF` (R350, R353), in any CPU that takes them. -/
theorem add16Flags_spec (c old : Cpu) (a v : Word) :
    let d : Cpu := { c with f := add16Flags old (add16 a v false) }
    d.hf = decide (4095 < a.toNat % 4096 + v.toNat % 4096) ∧ d.nf = false ∧
      d.cf = decide (65535 < a.toNat + v.toNat) ∧ d.yf = (a + v).getLsbD 13 ∧ d.xf = (a + v).getLsbD 11 ∧
      old.KeepsSZP d := by
  dsimp only
  unfold add16Flags
  rw [← add16_r]
  exact ⟨packF_hf .., packF_nf .., packF_cf .., packF_yf .., packF_xf .., packF_sf .., packF_zf .., packF_pf ..⟩

/-! ### Writes of `HL` and of an index register -/

/-- `HL` and the flags written: only `H`, `L` and `F` change. -/
theorem State.setHl_setF_frame (s : State) (v : Word) (f : Byte) (n : Nat) :
    let t := ((s.setRp .hl v).setF f).done n
    CpuOnly s t n ∧ t.cpu = { s.cpu with h := t.cpu.h, l := t.cpu.l, f := t.cpu.f } ∧ t.hl = v :=
  ⟨CpuOnly.intro rfl, rfl, joinBytes_hi_lo v⟩

/-- `ADD ii,v` (R353). -/
theorem State.addIndex_spec (s : State) (i : Index) (v : Word) (n : Nat) :
    let t := (s.addIndex i v).done n
    CpuOnly s t n ∧ s.cpu.OnlyIndexAndFlags t.cpu i (s.ii i + v) ∧
      t.cpu.hf = decide (4095 < (s.ii i).toNat % 4096 + v.toNat % 4096) ∧ t.cpu.nf = false ∧
      t.cpu.cf = decide (65535 < (s.ii i).toNat + v.toNat) ∧ t.cpu.yf = (s.ii i + v).getLsbD 13 ∧
      t.cpu.xf = (s.ii i + v).getLsbD 11 ∧ s.cpu.KeepsSZP t.cpu := by
  refine ⟨CpuOnly.intro rfl, ?_, add16Flags_spec (s.cpu.setIi i (add16 (s.ii i) v false).r) s.cpu (s.ii i) v⟩
  rw [← add16_r]
  exact Cpu.onlyIndexAndFlags_setIi s.cpu i _ _

/-- `ADD HL,v` (R350). -/
theorem State.addHl_spec (s : State) (v : Word) (n : Nat) :
    let t := (s.addHl v).done n
    CpuOnly s t n ∧ t.cpu = { s.cpu with h := t.cpu.h, l := t.cpu.l, f := t.cpu.f } ∧ t.hl = s.hl + v ∧
      t.cpu.hf = decide (4095 < s.hl.toNat % 4096 + v.toNat % 4096) ∧ t.cpu.nf = false ∧
      t.cpu.cf = decide (65535 < s.hl.toNat + v.toNat) ∧ t.cpu.yf = (s.hl + v).getLsbD 13 ∧
      t.cpu.xf = (s.hl + v).getLsbD 11 ∧ s.cpu.KeepsSZP t.cpu := by
  obtain ⟨hframe, hcpu, hhl⟩ :=
    s.setHl_setF_frame (add16 s.hl v false).r (add16Flags s.cpu (add16 s.hl v false)) n
  exact ⟨hframe, hcpu, hhl.trans (add16_r _ _),
    add16Flags_spec (s.cpu.setRp .hl (add16 s.hl v false).r) s.cpu s.hl v⟩

/-- `HL` takes a result of R17 and the flags say so; `signed` is the exact result of the signed operands (R351,
R352). -/
theorem State.carryHl_spec (s : State) (x : Sum16) (nf : Bool) (signed : Int)
    (hv : x.v = decide (signed < -32768 ∨ 32767 < signed)) (n : Nat) :
    let t := ((s.setRp .hl x.r).setF (carry16Flags x nf)).done n
    CpuOnly s t n ∧ t.cpu = { s.cpu with h := t.cpu.h, l := t.cpu.l, f := t.cpu.f } ∧ t.hl = x.r ∧
      (t.cpu.sf = t.hl.getLsbD 15 ∧ t.cpu.zf = decide (t.hl = 0) ∧ t.cpu.yf = t.hl.getLsbD 13 ∧
        t.cpu.xf = t.hl.getLsbD 11 ∧ t.cpu.pf = decide (signed < -32768 ∨ 32767 < signed)) ∧
      t.cpu.hf = x.h ∧ t.cpu.nf = nf ∧ t.cpu.cf = x.cy := by
  obtain ⟨hframe, hcpu, hhl⟩ := s.setHl_setF_frame x.r (carry16Flags x nf) n
  dsimp only at hhl ⊢
  rw [hhl, ← hv]
  exact ⟨hframe, hcpu, rfl, ⟨packF_sf .., packF_zf .., packF_yf .., packF_xf .., packF_pf ..⟩, packF_hf ..,
    packF_nf .., packF_cf ..⟩

/-- A pair written, nothing else. -/
theorem State.setRp_spec (s : State) (q : Pair) (v : Word) (n : Nat) :
    CpuOnly s ((s.setRp q v).done n) n ∧ s.cpu.OnlyPair ((s.setRp q v).done n).cpu q v :=
  ⟨CpuOnly.intro rfl, Cpu.onlyPair_setRp s.cpu q v⟩

/-- An index register written, nothing else. -/
theorem State.setIi_spec (s : State) (i : Index) (v : Word) (n : Nat) :
    CpuOnly s ((s.setIi i v).done n) n ∧ s.cpu.OnlyIndex ((s.setIi i v).done n).cpu i v :=
  ⟨CpuOnly.intro rfl, Cpu.onlyIndex_setIi s.cpu i v⟩

/-! ### The instructions -/

/-- Settles O37: each addition by its operand, each count as the write of its register. -/
theorem wordAdditionsAndIncrements : Obligations.WordAdditionsAndIncrements := by
  intro s p q iq
  refine ⟨⟨_, rfl, s.addHl_spec (s.rp q) 11⟩, fun x hx => ?_, fun x hx => ?_, fun x hx => ?_⟩
  · rcases List.mem_pair.1 hx with rfl | rfl
    · exact ⟨_, rfl, s.addIndex_spec .ix _ 15⟩
    · exact ⟨_, rfl, s.addIndex_spec .iy _ 15⟩
  · rcases List.mem_pair.1 hx with rfl | rfl
    · exact ⟨_, rfl, s.setRp_spec q (s.rp q + 1) _⟩
    · exact ⟨_, by rw [← sub_eq_add_neg]; rfl, s.setRp_spec q (s.rp q + -1) _⟩
  · simp only [List.mem_cons, List.not_mem_nil, or_false] at hx
    rcases hx with rfl | rfl | rfl | rfl
    · exact ⟨_, rfl, s.setIi_spec .ix (s.ii .ix + 1) 10⟩
    · exact ⟨_, by rw [← sub_eq_add_neg]; rfl, s.setIi_spec .ix (s.ii .ix + -1) 10⟩
    · exact ⟨_, rfl, s.setIi_spec .iy (s.ii .iy + 1) 10⟩
    · exact ⟨_, by rw [← sub_eq_add_neg]; rfl, s.setIi_spec .iy (s.ii .iy + -1) 10⟩

/-- Settles O38: the sum and the difference of R17 with the old carry, and the flags of each. -/
theorem wordAdditionsAndSubtractionsWithCarry : Obligations.WordAdditionsAndSubtractionsWithCarry := fun s q =>
  ⟨⟨_, rfl, s.carryHl_spec (add16 s.hl (s.rp q) s.cpu.cf) false _ (add16_v _ _ _) 15⟩,
    ⟨_, rfl, s.carryHl_spec (sub16 s.hl (s.rp q) s.cpu.cf) true _ (sub16_v _ _ _) 15⟩⟩

end Sys2Proof.Machine

end

section
/-! PROOFS. The registers that only the instructions named for them write, and what no instruction writes (O13 to
O15). -/

namespace Sys2Proof.Machine

/-! ### The reserved registers -/

/-- The registers that the spec gives writers of their own: the shadow set (R22), `SP` (R24), `I` and `R` (R28), the
interrupt flip-flops (R29), `IM` (R30), the halt flag (R31), `ei_delay` (R32) and the interrupt vector (R43). -/
structure Reserved where
  a2 : Byte
  f2 : Byte
  b2 : Byte
  c2 : Byte
  d2 : Byte
  e2 : Byte
  h2 : Byte
  l2 : Byte
  sp : Word
  i : Byte
  r : Byte
  iff1 : Bool
  iff2 : Bool
  im : IntMode
  halted : Bool
  eiDelay : Bool
  intVector : Byte

/-- The reserved registers of a machine. -/
def State.reserved (s : State) : Reserved :=
  { a2 := s.cpu.a2, f2 := s.cpu.f2, b2 := s.cpu.b2, c2 := s.cpu.c2, d2 := s.cpu.d2, e2 := s.cpu.e2, h2 := s.cpu.h2
    l2 := s.cpu.l2, sp := s.cpu.sp, i := s.cpu.i, r := s.cpu.r, iff1 := s.cpu.iff1, iff2 := s.cpu.iff2
    im := s.cpu.im, halted := s.cpu.halted, eiDelay := s.cpu.eiDelay, intVector := s.bus.intVector }

/-! ### Each operation on the machine: which reserved registers it writes -/

section

variable (s : State) (i : Index) (h : Half) (r : Reg8) (d : Dir) (op : Rot) (a w : Word) (v : Byte) (n : Nat)

@[simp] theorem State.reserved_done : (s.done n).reserved = s.reserved := rfl
@[simp] theorem State.reserved_drawn : s.drawn.reserved = s.reserved := rfl
@[simp] theorem State.reserved_setTable (t : Table) : (s.setTable t).reserved = s.reserved := rfl
@[simp] theorem State.reserved_setF : (s.setF v).reserved = s.reserved := rfl
@[simp] theorem State.reserved_setPc : (s.setPc w).reserved = s.reserved := rfl
@[simp] theorem State.reserved_setReg : (s.setReg r v).reserved = s.reserved := by cases r <;> rfl
@[simp] theorem State.reserved_setIi : (s.setIi i w).reserved = s.reserved := by cases i <;> rfl
@[simp] theorem State.reserved_setHalf : (s.setHalf i h v).reserved = s.reserved := by
  cases h <;> exact s.reserved_setIi i _
@[simp] theorem State.reserved_setRp2 (q : StackPair) : (s.setRp2 q w).reserved = s.reserved := by cases q <;> rfl

/-- Of the four register pairs only `SP` is a reserved register. -/
@[simp] theorem State.reserved_setRp_other (q : Pair) (hq : q ≠ .sp) : (s.setRp q w).reserved = s.reserved := by
  cases q with
  | bc | de | hl => rfl
  | sp => exact absurd rfl hq
@[simp] theorem State.reserved_setRp_sp : (s.setRp .sp w).reserved = { s.reserved with sp := w } := rfl

@[simp] theorem State.reserved_busWrite : (s.busWrite a v).reserved = s.reserved := by
  simp [State.reserved]
@[simp] theorem State.reserved_memWrite16 : (s.memWrite16 a w).reserved = s.reserved := by
  simp [State.memWrite16]
@[simp] theorem State.reserved_exchangeTop : (s.exchangeTop w).reserved = s.reserved := by
  simp [State.exchangeTop]
@[simp] theorem State.reserved_ioWrite : (s.ioWrite a v).reserved = { s.reserved with intVector := v } := rfl

@[simp] theorem State.reserved_push16 : (s.push16 w).reserved = { s.reserved with sp := s.reserved.sp - 2 } := by
  simp [State.reserved, State.push16]
@[simp] theorem State.reserved_popped : s.popped.reserved = { s.reserved with sp := s.reserved.sp + 2 } := rfl
@[simp] theorem State.reserved_returnFromInterrupt :
    s.returnFromInterrupt.reserved = { s.reserved with sp := s.reserved.sp + 2, iff1 := s.reserved.iff2 } := rfl

@[simp] theorem State.reserved_aluAdd : (s.aluAdd v).reserved = s.reserved := rfl
@[simp] theorem State.reserved_aluAdc : (s.aluAdc v).reserved = s.reserved := rfl
@[simp] theorem State.reserved_aluSub : (s.aluSub v).reserved = s.reserved := rfl
@[simp] theorem State.reserved_aluSbc : (s.aluSbc v).reserved = s.reserved := rfl
@[simp] theorem State.reserved_aluAnd : (s.aluAnd v).reserved = s.reserved := rfl
@[simp] theorem State.reserved_aluXor : (s.aluXor v).reserved = s.reserved := rfl
@[simp] theorem State.reserved_aluOr : (s.aluOr v).reserved = s.reserved := rfl
@[simp] theorem State.reserved_aluCp : (s.aluCp v).reserved = s.reserved := rfl
@[simp] theorem State.reserved_negate : s.negate.reserved = s.reserved := rfl
@[simp] theorem State.reserved_addHl : (s.addHl w).reserved = s.reserved := rfl
@[simp] theorem State.reserved_adcHl : (s.adcHl w).reserved = s.reserved := rfl
@[simp] theorem State.reserved_sbcHl : (s.sbcHl w).reserved = s.reserved := rfl
@[simp] theorem State.reserved_addIndex : (s.addIndex i w).reserved = s.reserved := by simp [State.addIndex]

@[simp] theorem State.reserved_incReg : (s.incReg r).reserved = s.reserved := by simp [State.incReg]
@[simp] theorem State.reserved_decReg : (s.decReg r).reserved = s.reserved := by simp [State.decReg]
@[simp] theorem State.reserved_incMem : (s.incMem a).reserved = s.reserved := by simp [State.incMem]
@[simp] theorem State.reserved_decMem : (s.decMem a).reserved = s.reserved := by simp [State.decMem]
@[simp] theorem State.reserved_incHalf : (s.incHalf i h).reserved = s.reserved := by simp [State.incHalf]
@[simp] theorem State.reserved_decHalf : (s.decHalf i h).reserved = s.reserved := by simp [State.decHalf]

@[simp] theorem State.reserved_rotateAcc : (s.rotateAcc op).reserved = s.reserved := rfl
@[simp] theorem State.reserved_rotateReg : (s.rotateReg op r).reserved = s.reserved := by simp [State.rotateReg]
@[simp] theorem State.reserved_rotateMem : (s.rotateMem op a).reserved = s.reserved := by simp [State.rotateMem]
@[simp] theorem State.reserved_rotateMemReg : (s.rotateMemReg op a r).reserved = s.reserved := by
  simp [State.rotateMemReg]
@[simp] theorem State.reserved_rotateDigitLeft : s.rotateDigitLeft.reserved = s.reserved := by
  simp [State.rotateDigitLeft]
@[simp] theorem State.reserved_rotateDigitRight : s.rotateDigitRight.reserved = s.reserved := by
  simp [State.rotateDigitRight]
@[simp] theorem State.reserved_setBitMem : (s.setBitMem a n).reserved = s.reserved := s.reserved_busWrite a _
@[simp] theorem State.reserved_resBitMem : (s.resBitMem a n).reserved = s.reserved := s.reserved_busWrite a _
@[simp] theorem State.reserved_bitIndexed : (s.bitIndexed a n).reserved = s.reserved := rfl

@[simp] theorem State.reserved_repeatIf (again : Bool) : (s.repeatIf again).reserved = s.reserved := by
  cases again <;> rfl
@[simp] theorem State.reserved_repeatLoad : s.repeatLoad.reserved = s.reserved := s.reserved_repeatIf _
@[simp] theorem State.reserved_repeatCompare : s.repeatCompare.reserved = s.reserved := s.reserved_repeatIf _
@[simp] theorem State.reserved_repeatIo : s.repeatIo.reserved = s.reserved := s.reserved_repeatIf _
@[simp] theorem State.reserved_blockLoad : (s.blockLoad d).reserved = s.reserved := by
  simp [State.blockLoad]
@[simp] theorem State.reserved_blockCompare : (s.blockCompare d).reserved = s.reserved := rfl
@[simp] theorem State.reserved_blockIn : (s.blockIn d).reserved = s.reserved := by simp [State.blockIn]
@[simp] theorem State.reserved_blockOut :
    (s.blockOut d).reserved = { s.reserved with intVector := s.busRead s.hl } := rfl

end

/-! ### The instructions that write a reserved register -/

/-- `i` pushes a word (R24). -/
def PushesWord (i : Instr) : Prop :=
  (∃ p q, i = .pushQq p q) ∨ i = .pushIx ∨ i = .pushIy ∨ (∃ p nn, i = .callNn p nn) ∨
    (∃ p cc nn, i = .callCcNn p cc nn) ∨ ∃ p y, i = .rst p y

/-- `i` returns from an interrupt (R434, R435). -/
def ReturnsFromInterrupt (i : Instr) : Prop := i = .reti ∨ ∃ y, i = .retn y

/-- `i` pops a word (R24). -/
def PopsWord (i : Instr) : Prop :=
  (∃ p q, i = .popQq p q) ∨ i = .popIx ∨ i = .popIy ∨ (∃ p, i = .ret p) ∨ (∃ p cc, i = .retCc p cc) ∨
    ReturnsFromInterrupt i

/-- `i` names `SP` as its destination (R24). -/
def NamesSp (i : Instr) : Prop :=
  (∃ p nn, i = .ldDdNn p .sp nn) ∨ (∃ nn, i = .ldDdMem .sp nn) ∨ i = .ldSpHl ∨ i = .ldSpIx ∨ i = .ldSpIy ∨
    (∃ p, i = .incSs p .sp) ∨ ∃ p, i = .decSs p .sp

/-- `i` sets the interrupt mode (R330). -/
def SetsIm (i : Instr) : Prop := (∃ y, i = .im0 y) ∨ (∃ y, i = .im1 y) ∨ ∃ y, i = .im2 y

/-- `i` writes a port (R121). -/
def WritesPort (i : Instr) : Prop :=
  (∃ p n, i = .outNA p n) ∨ (∃ r, i = .outCR r) ∨ i ∈ [.outC0, .outi, .outd, .otir, .otdr]

/-- `x.Change i y`: from `x` the instruction `i` can leave `y` in the reserved registers. Every instruction can leave
them alone; each other change has the instructions that R22 to R32 and R121 name for it. -/
inductive Reserved.Change (x : Reserved) (i : Instr) : Reserved → Prop
  | none : x.Change i x
  | shadowAf (h : ∃ p, i = .exAfAf p) (a f : Byte) : x.Change i { x with a2 := a, f2 := f }
  | shadowMain (hi : ∃ p, i = .exx p) (b c d e h l : Byte) :
      x.Change i { x with b2 := b, c2 := c, d2 := d, e2 := e, h2 := h, l2 := l }
  | enable (h : ∃ p, i = .ei p) : x.Change i { x with iff1 := true, iff2 := true, eiDelay := true }
  | disable (h : ∃ p, i = .di p) : x.Change i { x with iff1 := false, iff2 := false, eiDelay := false }
  | mode (h : SetsIm i) (m : IntMode) : x.Change i { x with im := m }
  | halt (h : ∃ p, i = .halt p) : x.Change i { x with halted := true }
  | page (h : i = .ldIA) (v : Byte) : x.Change i { x with i := v }
  | refresh (h : i = .ldRA) (v : Byte) : x.Change i { x with r := v }
  | push (h : PushesWord i) : x.Change i { x with sp := x.sp - 2 }
  | pop (h : PopsWord i) : x.Change i { x with sp := x.sp + 2 }
  | interruptReturn (h : ReturnsFromInterrupt i) : x.Change i { x with sp := x.sp + 2, iff1 := x.iff2 }
  | setSp (h : NamesSp i) (v : Word) : x.Change i { x with sp := v }
  | vector (h : WritesPort i) (v : Byte) : x.Change i { x with intVector := v }

/-- Where `res` goes on, it is a change of the reserved registers that `i` can make. -/
def State.Writes (s : State) (i : Instr) (res : Result) : Prop :=
  ∀ t, res = .next t → s.reserved.Change i t.reserved

namespace State.Writes

variable {s t : State} {i : Instr} {y : Reserved}

theorem next (heq : t.reserved = y) (h : s.reserved.Change i y) : s.Writes i (.next t) := by
  intro u hu
  obtain rfl : t = u := Host.Outcome.next.inj hu
  rwa [heq]

theorem nothing (heq : t.reserved = s.reserved) : s.Writes i (.next t) := .next heq .none

/-- A write to a pair changes a reserved register only where the pair is `SP`. -/
theorem pair (q : Pair) (v : Word) (n : Nat) (h : q = .sp → NamesSp i) : s.Writes i (.next ((s.setRp q v).done n)) := by
  by_cases hq : q = .sp
  · exact .next (by rw [hq]; rfl) (.setSp (h hq) v)
  · exact .nothing (s.reserved_setRp_other v q hq)

theorem ite {p : Prop} [Decidable p] {res res' : Result} (h : s.Writes i res) (h' : s.Writes i res') :
    s.Writes i (if p then res else res') := by
  split
  · exact h
  · exact h'

end State.Writes

/-- What every instruction does to the reserved registers (R22, R24, R28 to R32, R121). The last arm stands for every
instruction that is named for none of them: it is built from operations that leave them alone. -/
theorem exec_writes (i : Instr) (s : State) : s.Writes i (exec i s) := by
  cases i with
  | exAfAf p => exact .next rfl (.shadowAf ⟨p, rfl⟩ s.cpu.a s.cpu.f)
  | exx p => exact .next rfl (.shadowMain ⟨p, rfl⟩ s.cpu.b s.cpu.c s.cpu.d s.cpu.e s.cpu.h s.cpu.l)
  | ei p => exact .next rfl (.enable ⟨p, rfl⟩)
  | di p => exact .next rfl (.disable ⟨p, rfl⟩)
  | im0 y => exact .next rfl (.mode (.inl ⟨y, rfl⟩) .im0)
  | im1 y => exact .next rfl (.mode (.inr (.inl ⟨y, rfl⟩)) .im1)
  | im2 y => exact .next rfl (.mode (.inr (.inr ⟨y, rfl⟩)) .im2)
  | halt p => exact .next rfl (.halt ⟨p, rfl⟩)
  | ldIA => exact .next rfl (.page rfl s.cpu.a)
  | ldRA => exact .next rfl (.refresh rfl s.cpu.a)
  | pushQq p q => exact .next (s.reserved_push16 _) (.push (.inl ⟨p, q, rfl⟩))
  | pushIx => exact .next (s.reserved_push16 _) (.push (.inr (.inl rfl)))
  | pushIy => exact .next (s.reserved_push16 _) (.push (.inr (.inr (.inl rfl))))
  | callNn p nn => exact .next (s.reserved_push16 _) (.push (.inr (.inr (.inr (.inl ⟨p, nn, rfl⟩)))))
  | callCcNn p cc nn =>
    exact .ite (.next (s.reserved_push16 _) (.push (.inr (.inr (.inr (.inr (.inl ⟨p, cc, nn, rfl⟩)))))))
      (.nothing rfl)
  | rst p y => exact .next (s.reserved_push16 _) (.push (.inr (.inr (.inr (.inr (.inr ⟨p, y, rfl⟩))))))
  | popQq p q => exact .next (s.popped.reserved_setRp2 _ q) (.pop (.inl ⟨p, q, rfl⟩))
  | popIx => exact .next rfl (.pop (.inr (.inl rfl)))
  | popIy => exact .next rfl (.pop (.inr (.inr (.inl rfl))))
  | ret p => exact .next rfl (.pop (.inr (.inr (.inr (.inl ⟨p, rfl⟩)))))
  | retCc p cc => exact .ite (.next rfl (.pop (.inr (.inr (.inr (.inr (.inl ⟨p, cc, rfl⟩))))))) (.nothing rfl)
  | reti => exact .next rfl (.interruptReturn (.inl rfl))
  | retn y => exact .next rfl (.interruptReturn (.inr ⟨y, rfl⟩))
  | ldDdNn p q nn => exact .pair q _ _ fun hq => .inl ⟨p, nn, by rw [hq]⟩
  | ldDdMem q nn => exact .pair q _ _ fun hq => .inr (.inl ⟨nn, by rw [hq]⟩)
  | ldSpHl => exact .next rfl (.setSp (.inr (.inr (.inl rfl))) s.hl)
  | ldSpIx => exact .next rfl (.setSp (.inr (.inr (.inr (.inl rfl)))) (s.ii .ix))
  | ldSpIy => exact .next rfl (.setSp (.inr (.inr (.inr (.inr (.inl rfl))))) (s.ii .iy))
  | incSs p q => exact .pair q _ _ fun hq => .inr (.inr (.inr (.inr (.inr (.inl ⟨p, by rw [hq]⟩)))))
  | decSs p q => exact .pair q _ _ fun hq => .inr (.inr (.inr (.inr (.inr (.inr ⟨p, by rw [hq]⟩)))))
  | outNA p n => exact .next rfl (.vector (.inl ⟨p, n, rfl⟩) s.cpu.a)
  | outCR r => exact .next rfl (.vector (.inr (.inl ⟨r, rfl⟩)) (s.reg r))
  | outC0 => exact .next rfl (.vector (.inr (.inr (by simp))) 0)
  | outi | outd => exact .next rfl (.vector (.inr (.inr (by simp))) (s.busRead s.hl))
  | otir => exact .next ((s.blockOut .up).reserved_repeatIo) (.vector (.inr (.inr (by simp))) (s.busRead s.hl))
  | otdr => exact .next ((s.blockOut .down).reserved_repeatIo) (.vector (.inr (.inr (by simp))) (s.busRead s.hl))
  | djnz _ _ | jrCcE _ _ _ => exact .ite (.nothing (by simp)) (.nothing (by simp))
  | jpCcNn p cc nn =>
    rw [exec_jpCcNn_eq]
    exact .nothing rfl
  | _ => exact .nothing (by simp)

/-! ### Who writes each reserved register -/

namespace Reserved.Change

variable {x y : Reserved} {i : Instr}

/-- Only `EX AF,AF'` changes `A'` and `F'` (R22). -/
theorem af2 (c : x.Change i y) : (y.a2 = x.a2 ∧ y.f2 = x.f2) ∨ ∃ p, i = .exAfAf p := by
  cases c with
  | shadowAf h => exact .inr h
  | _ => exact .inl ⟨rfl, rfl⟩

/-- Only `EXX` changes the other shadow registers (R22). -/
theorem main2 (c : x.Change i y) :
    (y.b2 = x.b2 ∧ y.c2 = x.c2 ∧ y.d2 = x.d2 ∧ y.e2 = x.e2 ∧ y.h2 = x.h2 ∧ y.l2 = x.l2) ∨ ∃ p, i = .exx p := by
  cases c with
  | shadowMain h => exact .inr h
  | _ => exact .inl ⟨rfl, rfl, rfl, rfl, rfl, rfl⟩

/-- R24: the instructions that write `SP`, the implicit ones by 2. -/
theorem sp (c : x.Change i y) :
    y.sp = x.sp ∨ (y.sp = x.sp - 2 ∧ PushesWord i) ∨ (y.sp = x.sp + 2 ∧ PopsWord i) ∨ NamesSp i := by
  cases c with
  | push h => exact .inr (.inl ⟨rfl, h⟩)
  | pop h => exact .inr (.inr (.inl ⟨rfl, h⟩))
  | interruptReturn h => exact .inr (.inr (.inl ⟨rfl, .inr (.inr (.inr (.inr (.inr h))))⟩))
  | setSp h => exact .inr (.inr (.inr h))
  | _ => exact .inl rfl

/-- Only `EI`, `DI` and the returns from an interrupt change `IFF1` (R29). -/
theorem iff1 (c : x.Change i y) :
    y.iff1 = x.iff1 ∨ (∃ p, i = .ei p) ∨ (∃ p, i = .di p) ∨ ReturnsFromInterrupt i := by
  cases c with
  | enable h => exact .inr (.inl h)
  | disable h => exact .inr (.inr (.inl h))
  | interruptReturn h => exact .inr (.inr (.inr h))
  | _ => exact .inl rfl

/-- Only `EI` and `DI` change `IFF2` (R29). -/
theorem iff2 (c : x.Change i y) : y.iff2 = x.iff2 ∨ (∃ p, i = .ei p) ∨ ∃ p, i = .di p := by
  cases c with
  | enable h => exact .inr (.inl h)
  | disable h => exact .inr (.inr h)
  | _ => exact .inl rfl

/-- Only `EI` and `DI` change `ei_delay` (R32). -/
theorem eiDelay (c : x.Change i y) : y.eiDelay = x.eiDelay ∨ (∃ p, i = .ei p) ∨ ∃ p, i = .di p := by
  cases c with
  | enable h => exact .inr (.inl h)
  | disable h => exact .inr (.inr h)
  | _ => exact .inl rfl

/-- Only `IM n` changes the interrupt mode (R30). -/
theorem im (c : x.Change i y) : y.im = x.im ∨ SetsIm i := by
  cases c with
  | mode h => exact .inr h
  | _ => exact .inl rfl

/-- Only `HALT` changes the halt flag (R31). -/
theorem halted (c : x.Change i y) : y.halted = x.halted ∨ ∃ p, i = .halt p := by
  cases c with
  | halt h => exact .inr h
  | _ => exact .inl rfl

/-- Only `LD I,A` changes `I` (R28). -/
theorem i_eq (c : x.Change i y) : y.i = x.i ∨ i = .ldIA := by
  cases c with
  | page h => exact .inr h
  | _ => exact .inl rfl

/-- After the fetch only `LD R,A` changes `R` (R28). -/
theorem r_eq (c : x.Change i y) : y.r = x.r ∨ i = .ldRA := by
  cases c with
  | refresh h => exact .inr h
  | _ => exact .inl rfl

/-- Only a port output changes the interrupt vector (R43, R121). -/
theorem intVector (c : x.Change i y) : y.intVector = x.intVector ∨ WritesPort i := by
  cases c with
  | vector h => exact .inr h
  | _ => exact .inl rfl

end Reserved.Change

/-! ### What no instruction writes (R44, R46, R48 to R50, R95) -/

/-- The ROM images, the input latches, the ScreenBuffer, the scheduler, `mute`, the phase accumulators and the samples
already pushed are the same in `s` and `t`. -/
def State.SameDevices (s t : State) : Prop :=
  t.roms = s.roms ∧ t.bus.inputs = s.bus.inputs ∧ t.screen = s.screen ∧ t.sched = s.sched ∧
    t.audio.mute = s.audio.mute ∧ t.audio.ch0.acc = s.audio.ch0.acc ∧ t.audio.ch1.acc = s.audio.ch1.acc ∧
    t.audio.ch2.acc = s.audio.ch2.acc ∧ t.audio.pushed = s.audio.pushed

namespace State.SameDevices

variable {s t u : State}

theorem refl (s : State) : s.SameDevices s := ⟨rfl, rfl, rfl, rfl, rfl, rfl, rfl, rfl, rfl⟩

theorem trans (h : s.SameDevices t) (h' : t.SameDevices u) : s.SameDevices u := by
  obtain ⟨roms, inputs, screen, sched, mute, acc0, acc1, acc2, pushed⟩ := h
  obtain ⟨roms', inputs', screen', sched', mute', acc0', acc1', acc2', pushed'⟩ := h'
  exact ⟨roms'.trans roms, inputs'.trans inputs, screen'.trans screen, sched'.trans sched, mute'.trans mute,
    acc0'.trans acc0, acc1'.trans acc1, acc2'.trans acc2, pushed'.trans pushed⟩

/-- A bus write reaches none of them (R91, R95, R602). -/
theorem busWrite (s : State) (a : Word) (v : Byte) : s.SameDevices (s.busWrite a v) := by
  obtain ⟨hmute, hpushed, hacc0, hacc1, hacc2⟩ := s.busWrite_audio_rest a v
  exact ⟨s.busWrite_roms a v, s.busWrite_inputs a v, s.busWrite_screen a v, s.busWrite_sched a v, hmute, hacc0, hacc1,
    hacc2, hpushed⟩

end State.SameDevices

/-- No effect of an instruction reaches them. -/
theorem State.Effect.sameDevices {s t : State} (h : s.Effect t) : s.SameDevices t := by
  cases h with
  | cpu => exact .refl s
  | store a v => exact .busWrite s a v
  | storeTwo a1 v1 a2 v2 => exact (SameDevices.busWrite s a1 v1).trans (.busWrite _ a2 v2)
  | port => exact .refl s

/-- A PREFIX row selects a table and does nothing else (R141; log 8). -/
theorem exec_of_selectsTable (i : Instr) (s : State) (h : selectsTable i = true) :
    ∃ table, exec i s = .next ((s.setTable table).done 0) := by
  unfold selectsTable at h
  split at h
  case h_7 => cases h
  all_goals exact ⟨_, rfl⟩

/-- No instruction changes one of them: a PREFIX row touches the table selection only, every other instruction has one
of the effects of `State.Effect`. -/
theorem exec_sameDevices (i : Instr) (s t : State) (h : exec i s = .next t) : s.SameDevices t := by
  cases hi : selectsTable i with
  | true =>
    obtain ⟨table, ht⟩ := exec_of_selectsTable i s hi
    obtain rfl := Host.Outcome.next.inj (ht.symm.trans h)
    exact .refl s
  | false =>
    obtain ⟨u, hu, heff, -⟩ := exec_answers i s hi
    obtain rfl := Host.Outcome.next.inj (hu.symm.trans h)
    exact heff.sameDevices

/-! ### The obligations -/

/-- Settles O13: the writers of each control register, from the change that the instruction makes. -/
theorem onlyTheirInstructionsChangeControlRegisters : Obligations.OnlyTheirInstructionsChangeControlRegisters := by
  intro i s t h
  have c := exec_writes i s t h
  exact ⟨c.iff1, c.iff2, c.im, c.halted, c.i_eq, c.r_eq, c.eiDelay⟩

/-- Settles O14: the writers of the shadow set and of the vector, and the devices that no effect reaches. -/
theorem instructionsLeaveTheRestAlone : Obligations.InstructionsLeaveTheRestAlone := by
  intro i s t h
  have c := exec_writes i s t h
  exact ⟨c.af2, c.main2, c.intVector, exec_sameDevices i s t h⟩

/-- Settles O15: the writers of `SP` and the amount, from the change that the instruction makes. -/
theorem onlyStackInstructionsMoveTheStackPointer : Obligations.OnlyStackInstructionsMoveTheStackPointer := by
  intro i s t h
  exact (exec_writes i s t h).sp

end Sys2Proof.Machine

end

section
/-! PROOFS. The step runs the decoded instruction (O1). -/

namespace Sys2Proof.Machine

/-- In the main table the next instruction is the one that the four bytes at `PC` decode to (R141, R320). -/
theorem State.fetchInstr_main (s : State) (h : s.table = .main) :
    s.fetchInstr =
      decodeBytes
        [s.busRead s.cpu.pc, s.busRead (s.cpu.pc + 1), s.busRead (s.cpu.pc + 2), s.busRead (s.cpu.pc + 3)] := by
  unfold State.fetchInstr State.fetchBytes
  rw [h]
  rfl

/-- In the main table a fetch moves `PC` past every byte of the instruction and advances `R` (R18, R25, R320). -/
theorem State.fetched_main (s : State) (i : Instr) (h : s.table = .main) :
    s.fetched i =
      { s with
        cpu := { s.cpu with
          pc := s.cpu.pc + BitVec.ofNat 16 (encode i).length
          r := incR s.cpu.r (refreshCount i) }
        table := .main } := by
  unfold State.fetched
  rw [h]
  rfl

/-- Settles O1: a well-formed instruction goes on, so the step is its CPU step with the accounting after it. -/
theorem stepRunsTheDecodedInstruction : Obligations.StepRunsTheDecodedInstruction := by
  intro s i hawake htable hwf hdecode
  have hinstr : s.fetchInstr = i := (s.fetchInstr_main htable).trans hdecode
  rw [← s.fetched_main i htable]
  obtain ⟨t, ht, -⟩ := exec_answers i (s.fetched i) (selectsTable_of_wellFormed i hwf)
  have hcpu : s.cpuStep = .next (t.endStep i) := by
    rw [State.cpuStep_next_iff, hinstr]
    exact .inr ⟨hawake, t, ht, rfl⟩
  rw [ht]
  exact (step_next_iff s _).2 ⟨_, hcpu, rfl⟩

end Sys2Proof.Machine

end

section
/-! PROOFS. The host operations (O12). -/

namespace Sys2Proof.Machine

/-- The bus address of the byte that the debug hook writes (R125). -/
def cheatAddress : Word := BitVec.ofNat 16 (0x4000 + Config.cheatOffset.toNat)

/-- The address lies in RAM, at the offset of the hook. -/
theorem mirror_cheatAddress : mirror cheatAddress = 0x4000 + Config.cheatOffset.toNat := by
  have h := Config.cheatOffset.isLt
  unfold mirror cheatAddress
  rw [BitVec.toNat_ofNat]
  omega

/-- The debug hook is a bus write of the sentinel (R125, R546). -/
theorem State.debugHook_eq_busWrite (s : State) : s.debugHook = s.busWrite cheatAddress Config.cheatValue := by
  have h := Config.cheatOffset.isLt
  have htarget : writeTarget cheatAddress = .ram Config.cheatOffset.toNat := by
    rw [writeTarget_ram_iff, readTarget_ram, mirror_cheatAddress]
    omega
  unfold State.busWrite
  rw [htarget]
  rfl

/-- What the bus reads after the debug hook: the sentinel at its byte and at the mirrors, elsewhere what it read before
(R125, R546). -/
theorem State.busRead_debugHook (s : State) (a : Word) :
    s.debugHook.busRead a =
      if mirror a = 0x4000 + Config.cheatOffset.toNat then Config.cheatValue else s.busRead a := by
  have h := Config.cheatOffset.isLt
  have hram : 0x4000 ≤ mirror cheatAddress ∧ mirror cheatAddress < 0x5000 := by
    rw [mirror_cheatAddress]
    omega
  rw [State.debugHook_eq_busWrite, State.busRead_busWrite, mirror_cheatAddress]
  simp only [← mirror_cheatAddress, hram, and_true]

/-- Settles O12: each operation is one record update; the listed latches are the eleven cases of `Inputs.set`. -/
theorem hostOperationsDoOnlyTheirOwn : Obligations.HostOperationsDoOnlyTheirOwn := by
  intro s
  refine ⟨rfl, rfl, fun _ => rfl, fun _ => rfl, fun _ _ => ⟨rfl, rfl⟩, fun v x hx => ?_, rfl, s.busRead_debugHook⟩
  have hlatch : x.2 = s.bus.inputs.set x.1 v := by
    simp only [List.mem_cons, List.not_mem_nil, or_false] at hx
    rcases hx with rfl | rfl | rfl | rfl | rfl | rfl | rfl | rfl | rfl | rfl | rfl
    all_goals rfl
  rw [hlatch]
  rfl

end Sys2Proof.Machine

end

section
/-! PROOFS. The 16-bit loads, stores and pushes (O20, O21). -/

namespace Sys2Proof.Machine

/-- Settles O20: each load is the write of one pair or of one index register, by `State.setRp_spec` and
`State.setIi_spec`. -/
theorem wordLoadsFillOnePair : Obligations.WordLoadsFillOnePair := by
  intro s p q nn m
  refine ⟨fun x hx => ?_, fun x hx => ?_⟩ <;> simp only [List.mem_cons, List.not_mem_nil, or_false] at hx
  · rcases hx with rfl | rfl | rfl | rfl | rfl | rfl
    · exact ⟨_, rfl, s.setRp_spec q nn _⟩
    · exact ⟨_, rfl, s.setRp_spec q m 20⟩
    · exact ⟨_, rfl, s.setRp_spec .hl m 16⟩
    · exact ⟨_, rfl, s.setRp_spec .sp s.hl 6⟩
    · exact ⟨_, rfl, s.setRp_spec .sp s.cpu.ix 10⟩
    · exact ⟨_, rfl, s.setRp_spec .sp s.cpu.iy 10⟩
  · rcases hx with rfl | rfl | rfl | rfl
    · exact ⟨_, rfl, s.setIi_spec .ix nn 14⟩
    · exact ⟨_, rfl, s.setIi_spec .ix m 20⟩
    · exact ⟨_, rfl, s.setIi_spec .iy nn 14⟩
    · exact ⟨_, rfl, s.setIi_spec .iy m 20⟩

/-- `MemWrite(addr, 2, v)`: both bytes, and the CPU as it was (R13, R109). -/
theorem State.memWrite16_spec (s : State) (a v : Word) (n : Nat) :
    StoresTwo s ((s.memWrite16 a v).done n) a (lo v) (a + 1) (hi v) n ∧ ((s.memWrite16 a v).done n).cpu = s.cpu :=
  ⟨s.memWrite16_storesTwo a v n, s.memWrite16_cpu a v⟩

/-- `Push16(v)`: both bytes, and `SP` two lower (R13). -/
theorem State.push16_spec (s : State) (v : Word) (n : Nat) :
    StoresTwo s ((s.push16 v).done n) (s.cpu.sp - 1) (hi v) (s.cpu.sp - 2) (lo v) n ∧
      ((s.push16 v).done n).cpu = { s.cpu with sp := s.cpu.sp - 2 } :=
  ⟨s.push16_storesTwo v n, s.push16_cpu v⟩

/-- Settles O21: each store is `MemWrite` of its register, each push `Push16` of its pair. -/
theorem wordStoresAndPushes : Obligations.WordStoresAndPushes := by
  intro s p q qq nn
  refine ⟨fun x hx => ?_, fun x hx => ?_⟩ <;> simp only [List.mem_cons, List.not_mem_nil, or_false] at hx
  · rcases hx with rfl | rfl | rfl | rfl
    · exact ⟨_, rfl, s.memWrite16_spec nn (s.rp q) 20⟩
    · exact ⟨_, rfl, s.memWrite16_spec nn s.hl 16⟩
    · exact ⟨_, rfl, s.memWrite16_spec nn s.cpu.ix 20⟩
    · exact ⟨_, rfl, s.memWrite16_spec nn s.cpu.iy 20⟩
  · rcases hx with rfl | rfl | rfl
    · exact ⟨_, rfl, s.push16_spec (s.rp2 qq) _⟩
    · exact ⟨_, rfl, s.push16_spec s.cpu.ix 15⟩
    · exact ⟨_, rfl, s.push16_spec s.cpu.iy 15⟩

end Sys2Proof.Machine

end

section
/-! PROOFS. Input and output through a port (O47). -/

namespace Sys2Proof.Machine

/-- The flags of an input (R451), in any CPU that takes them: those of the byte, `CF` as given. -/
theorem inFlags_spec (c : Cpu) (v : Byte) (cf : Bool) :
    let d : Cpu := { c with f := inFlags v cf }
    d.Shows v ∧ d.hf = false ∧ d.pf = evenOnes v ∧ d.nf = false ∧ d.cf = cf := by
  rw [← parity_eq_evenOnes]
  exact shows_szyxF c v false (parity v) false cf

/-- Settles O47: an input draws the byte of its port and writes its register and the flags of that byte; an output is
one write of the interrupt vector. -/
theorem portInputsAndOutputs : Obligations.PortInputsAndOutputs := by
  intro s p r n v input
  refine ⟨⟨_, rfl, CpuOnly.intro rfl, rfl⟩, ⟨_, rfl, CpuOnly.intro rfl, ?_, ?_⟩,
    ⟨_, rfl, CpuOnly.intro rfl, rfl, ?_⟩, fun x hx => ?_⟩
  · exact Cpu.onlyRegAndFlags_setReg s.cpu r v (inFlags v s.cpu.cf)
  · exact inFlags_spec (s.cpu.setReg r v) v s.cpu.cf
  · exact inFlags_spec s.cpu v s.cpu.cf
  · simp only [List.mem_cons, List.not_mem_nil, or_false] at hx
    rcases hx with rfl | rfl | rfl
    all_goals rfl

end Sys2Proof.Machine

end

section
/-! PROOFS. The memory map (O49, O50). -/

namespace Sys2Proof.Machine

/-! ### What each address reads as -/

/-- `IN0` in numbers: every line is low where its signal is active (R98). -/
theorem portIn0_eq_complement (i : Inputs) :
    portIn0 i =
      255 - BitVec.ofNat 8 (i.up.toNat + 2 * i.left.toNat + 4 * i.right.toNat + 8 * i.down.toNat +
        16 * i.rackAdvance.toNat + 32 * i.coin1.toNat + 64 * i.coin2.toNat + 128 * i.credit.toNat) := by
  have bits : ∀ b0 b1 b2 b3 b4 b5 b6 b7 : Bool,
      byteOfBits (!b7) (!b6) (!b5) (!b4) (!b3) (!b2) (!b1) (!b0) =
        255 - BitVec.ofNat 8 (b0.toNat + 2 * b1.toNat + 4 * b2.toNat + 8 * b3.toNat + 16 * b4.toNat + 32 * b5.toNat +
          64 * b6.toNat + 128 * b7.toNat) := by decide
  exact bits ..

/-- `IN1` in numbers: as `IN0`, but bit 7 is the constant `CABINET_BIT` (R99). -/
theorem portIn1_eq_complement (i : Inputs) :
    portIn1 i =
      255 - BitVec.ofNat 8 (i.up.toNat + 2 * i.left.toNat + 4 * i.right.toNat + 8 * i.down.toNat +
        16 * i.boardTest.toNat + 32 * i.start1.toNat + 64 * i.start2.toNat) := by
  have bits : ∀ b0 b1 b2 b3 b4 b5 b6 : Bool,
      byteOfBits Config.cabinetBit (!b6) (!b5) (!b4) (!b3) (!b2) (!b1) (!b0) =
        255 - BitVec.ofNat 8 (b0.toNat + 2 * b1.toNat + 4 * b2.toNat + 8 * b3.toNat + 16 * b4.toNat + 32 * b5.toNat +
          64 * b6.toNat) := by decide
  exact bits ..

/-- Settles O49: the regions of `readTarget`, with the ports in numbers. -/
theorem busReadsFollowTheMap : Obligations.BusReadsFollowTheMap := by
  intro s addr a i
  rw [← portIn0_eq_complement, ← portIn1_eq_complement]
  have ha : a = mirror addr := rfl
  simp only [State.busRead, readTarget, ← ha, Nat.lt_succ_iff]
  split_ifs
  all_goals rfl

/-! ### The region that takes a write (R86, R102 to R106) -/

theorem writeTarget_intEnable_iff (a : Word) : writeTarget a = .intEnable ↔ mirror a = 0x5000 := by
  unfold writeTarget
  dsimp only
  split_ifs <;> simp only [true_iff, false_iff] <;> omega

theorem writeTarget_soundEnable_iff (a : Word) : writeTarget a = .soundEnable ↔ mirror a = 0x5001 := by
  unfold writeTarget
  dsimp only
  split_ifs <;> simp only [true_iff, false_iff] <;> omega

theorem writeTarget_flipScreen_iff (a : Word) : writeTarget a = .flipScreen ↔ mirror a = 0x5003 := by
  unfold writeTarget
  dsimp only
  split_ifs <;> simp only [true_iff, false_iff] <;> omega

theorem writeTarget_audio_iff (a : Word) (k : Nat) :
    writeTarget a = .audio k ↔ 0x5040 ≤ mirror a ∧ mirror a ≤ 0x505F ∧ k = mirror a - 0x5040 := by
  unfold writeTarget
  dsimp only
  split_ifs <;> simp only [false_iff, WriteTarget.audio.injEq] <;> omega

theorem writeTarget_sprite_iff (a : Word) (k : Nat) :
    writeTarget a = .sprite k ↔ 0x5060 ≤ mirror a ∧ mirror a ≤ 0x506F ∧ k = mirror a - 0x5060 := by
  unfold writeTarget
  dsimp only
  split_ifs <;> simp only [false_iff, WriteTarget.sprite.injEq] <;> omega

/-- `writeTarget_ram_iff` in addresses. -/
theorem writeTarget_ram_iff_mirror (a : Word) (k : Nat) :
    writeTarget a = .ram k ↔ 0x4000 ≤ mirror a ∧ mirror a ≤ 0x4FFF ∧ k = mirror a - 0x4000 := by
  rw [writeTarget_ram_iff, readTarget_ram]
  omega

/-! ### Each device after a write -/

section

variable (s : State) (a : Word) (v : Byte)

theorem State.busWrite_ram_read (k : Nat) :
    (s.busWrite a v).bus.ram.read k = if writeTarget a = .ram k then v else s.bus.ram.read k := by
  unfold State.busWrite
  cases writeTarget a with
  | ram j => simp only [WriteTarget.ram.injEq, Memory.read_write, eq_comm]
  | _ => rfl

theorem State.busWrite_spritePos_read (k : Nat) :
    (s.busWrite a v).bus.spritePos.read k = if writeTarget a = .sprite k then v else s.bus.spritePos.read k := by
  unfold State.busWrite
  cases writeTarget a with
  | sprite j => simp only [WriteTarget.sprite.injEq, Memory.read_write, eq_comm]
  | _ => rfl

theorem State.busWrite_intEnable :
    (s.busWrite a v).bus.intEnable = if mirror a = 0x5000 then v.getLsbD 0 else s.bus.intEnable := by
  rw [← if_congr (writeTarget_intEnable_iff a) rfl rfl]
  unfold State.busWrite
  cases writeTarget a
  all_goals rfl

theorem State.busWrite_soundEnable :
    (s.busWrite a v).bus.soundEnable = if mirror a = 0x5001 then v.getLsbD 0 else s.bus.soundEnable := by
  rw [← if_congr (writeTarget_soundEnable_iff a) rfl rfl]
  unfold State.busWrite
  cases writeTarget a
  all_goals rfl

theorem State.busWrite_flipScreen :
    (s.busWrite a v).bus.flipScreen = if mirror a = 0x5003 then v.getLsbD 0 else s.bus.flipScreen := by
  rw [← if_congr (writeTarget_flipScreen_iff a) rfl rfl]
  unfold State.busWrite
  cases writeTarget a
  all_goals rfl

theorem State.busWrite_audio :
    (s.busWrite a v).audio =
      if 0x5040 ≤ mirror a ∧ mirror a ≤ 0x505F then s.audio.write (mirror a - 0x5040) v else s.audio := by
  have haudio := writeTarget_audio_iff a
  unfold State.busWrite
  generalize writeTarget a = t at haudio ⊢
  cases t with
  | audio k =>
    obtain ⟨hlow, hhigh, hk⟩ := (haudio k).1 rfl
    rw [if_pos ⟨hlow, hhigh⟩, ← hk]
  | _ =>
    refine (if_neg ?_).symm
    rintro ⟨hlow, hhigh⟩
    cases (haudio (mirror a - 0x5040)).2 ⟨hlow, hhigh, rfl⟩

/-- A write reaches the two memories, the three latches and the audio registers, nothing else (R91). -/
theorem State.busWrite_frame :
    s.busWrite a v =
      { s with
        bus := { s.bus with
          ram := (s.busWrite a v).bus.ram
          spritePos := (s.busWrite a v).bus.spritePos
          intEnable := (s.busWrite a v).bus.intEnable
          soundEnable := (s.busWrite a v).bus.soundEnable
          flipScreen := (s.busWrite a v).bus.flipScreen }
        audio := (s.busWrite a v).audio } := by
  unfold State.busWrite
  cases writeTarget a
  all_goals rfl

end

/-- Settles O50: what each device holds after the write, and that there are no other devices. -/
theorem busWritesFollowTheMap : Obligations.BusWritesFollowTheMap := by
  intro s addr v a
  refine ⟨fun b => s.busRead_busWrite_readAfter addr b v, funext fun k => ?_, funext fun k => ?_, ?_⟩
  · exact (s.busWrite_ram_read addr v k).trans (if_congr (writeTarget_ram_iff_mirror addr k) rfl rfl)
  · exact (s.busWrite_spritePos_read addr v k).trans (if_congr (writeTarget_sprite_iff addr k) rfl rfl)
  · have h := s.busWrite_frame addr v
    rw [s.busWrite_intEnable, s.busWrite_soundEnable, s.busWrite_flipScreen, s.busWrite_audio] at h
    exact h

end Sys2Proof.Machine

end

section
/-! PROOFS. An encoding decodes to the instruction it encodes, whatever bytes follow (O2). -/

namespace Sys2Proof

/-! ### Opcode fields and operand codes (R13, R142) -/

theorem fieldX_opXYZ (x y z : Nat) (hx : x < 4) (hy : y < 8) (hz : z < 8) : fieldX (opXYZ x y z) = x := by
  simp only [fieldX, opXYZ, BitVec.toNat_ofNat]
  omega

theorem fieldY_opXYZ (x y z : Nat) (hy : y < 8) (hz : z < 8) : fieldY (opXYZ x y z) = y := by
  simp only [fieldY, opXYZ, BitVec.toNat_ofNat]
  omega

theorem fieldZ_opXYZ (x y z : Nat) (hz : z < 8) : fieldZ (opXYZ x y z) = z := by
  simp only [fieldZ, opXYZ, BitVec.toNat_ofNat]
  omega

@[simp] theorem Reg8.code_lt (r : Reg8) : r.code < 8 := by cases r <;> decide

/-- Code 6 is the memory operand (R13). -/
@[simp] theorem Reg8.code_ne_six (r : Reg8) : r.code ≠ 6 := by cases r <;> decide

@[simp] theorem Reg8.ofCode_code (r : Reg8) : Reg8.ofCode r.code = r := by cases r <;> rfl

@[simp] theorem code3_val (b : Code3) : code3 b.val = b := Fin.ext (Nat.mod_eq_of_lt b.isLt)

/-! ### What R147 does not assign is a no-op (R166) -/

theorem decodeEd1_eq_nopEd (op b2 b3 : Byte) (hz : fieldZ op = 7) (hy : 6 ≤ fieldY op) :
    decodeEd1 op b2 b3 = .nopEd op := by
  obtain ⟨k, hk⟩ := Nat.exists_eq_add_of_le' hy
  unfold decodeEd1
  rw [hz, hk]
  rfl

theorem decodeEd2_eq_nopEd (op : Byte) (h : ¬(fieldZ op < 4 ∧ 4 ≤ fieldY op)) : decodeEd2 op = .nopEd op := by
  unfold decodeEd2
  split
  case h_17 => rfl
  all_goals omega

theorem decodeEd_eq_nopEd (op b2 b3 : Byte) (h : edAssigned op = false) : decodeEd op b2 b3 = .nopEd op := by
  unfold edAssigned at h
  unfold decodeEd
  generalize fieldX op = x at h ⊢
  rcases x with _ | _ | _ | x
  · rfl
  · have hunassigned : ¬(fieldZ op ≠ 7 ∨ fieldY op < 6) := of_decide_eq_false h
    exact decodeEd1_eq_nopEd op b2 b3 (by omega) (by omega)
  · exact decodeEd2_eq_nopEd op (of_decide_eq_false h)
  · rfl

/-! ### Decoding behind an index prefix -/

/-- The instruction that four bytes begin with where the prefix bytes of `p` stand before them (R141, R166). -/
def Pass.decodeAfter (p : Pass) (b0 b1 b2 b3 : Byte) : Instr :=
  match p with
  | .none => decode4 b0 b1 b2 b3
  | .dd => decodeIndexed .ix b0 b1 b2
  | .fd => decodeIndexed .iy b0 b1 b2

theorem decodeBytes_pass (p : Pass) (bs : List Byte) :
    decodeBytes (p.bytes ++ bs) = p.decodeAfter (bs.getD 0 0) (bs.getD 1 0) (bs.getD 2 0) (bs.getD 3 0) := by
  cases p
  all_goals rfl

/-! ### Instructions that decode back -/

/-- Whatever follows the encoding of `i`, and the byte R152 looks at where `i` is a lone prefix, the bytes decode to
`i`. -/
def Instr.DecodesBack (i : Instr) : Prop := ∀ rest : List Byte, decodeBytes (encode i ++ (lookahead i ++ rest)) = i

namespace Instr.DecodesBack

variable {i : Instr} (p : Pass) {b0 b1 b2 b3 : Byte}

theorem of_pass {bs : List Byte} (he : encode i = p.bytes ++ bs) (hl : lookahead i = [])
    (hd : ∀ rest : List Byte, decodeBytes (p.bytes ++ (bs ++ rest)) = i) : i.DecodesBack := fun rest => by
  rw [he, hl, List.nil_append, List.append_assoc]
  exact hd rest

/-- One byte behind the prefix decides, whatever the three bytes after it are. -/
theorem of_one (he : encode i = p.bytes ++ [b0]) (hl : lookahead i = [])
    (hd : ∀ b1 b2 b3, p.decodeAfter b0 b1 b2 b3 = i) : i.DecodesBack :=
  of_pass p he hl fun rest => (decodeBytes_pass p (b0 :: rest)).trans (hd _ _ _)

/-- Two bytes behind the prefix decide. -/
theorem of_two (he : encode i = p.bytes ++ [b0, b1]) (hl : lookahead i = [])
    (hd : ∀ b2 b3, p.decodeAfter b0 b1 b2 b3 = i) : i.DecodesBack :=
  of_pass p he hl fun rest => (decodeBytes_pass p (b0 :: b1 :: rest)).trans (hd _ _)

/-- Three bytes behind the prefix decide. -/
theorem of_three (he : encode i = p.bytes ++ [b0, b1, b2]) (hl : lookahead i = [])
    (hd : ∀ b3, p.decodeAfter b0 b1 b2 b3 = i) : i.DecodesBack :=
  of_pass p he hl fun rest => (decodeBytes_pass p (b0 :: b1 :: b2 :: rest)).trans (hd _)

/-- Four bytes behind the prefix decide. -/
theorem of_four (he : encode i = p.bytes ++ [b0, b1, b2, b3]) (hl : lookahead i = [])
    (hd : p.decodeAfter b0 b1 b2 b3 = i) : i.DecodesBack :=
  of_pass p he hl fun rest => (decodeBytes_pass p (b0 :: b1 :: b2 :: b3 :: rest)).trans hd

/-- A lone prefix is decided by itself and the byte after it (R152). -/
theorem of_lone (he : encode i ++ lookahead i = [b0, b1]) (hd : ∀ b2 b3, decode4 b0 b1 b2 b3 = i) :
    i.DecodesBack := fun rest => by
  rw [← List.append_assoc, he]
  exact hd _ _

end Instr.DecodesBack

open Instr.DecodesBack

/-- Every well-formed instruction decodes back. The split is by the shape of the encoding: the codes of the operands
are enumerated, or taken out of the opcode by its fields, and data bytes stand as they are. -/
theorem decodesBack_of_wellFormed (i : Instr) (h : wellFormed i = true) : i.DecodesBack := by
  cases i with
  -- no operand
  | incHl | decHl | addAHl | adcAHl | subHl | sbcAHl | andHl | xorHl | orHl | cpHl | jpHl | ldSpHl | exSpHl =>
    exact of_one .none rfl rfl fun _ _ _ => rfl
  | rlcHl | rrcHl | rlHl | rrHl | slaHl | sraHl | sllHl | srlHl | inC | outC0 | reti | ldIA | ldRA | ldAI | ldAR | rrd
  | rld | ldi | cpi | ini | outi | ldd | cpd | ind | outd | ldir | cpir | inir | otir | lddr | cpdr | indr | otdr =>
    exact of_two .none rfl rfl fun _ _ => rfl
  | incIx | decIx | incIxh | decIxh | incIxl | decIxl | addAIxh | addAIxl | adcAIxh | adcAIxl | subIxh | subIxl
  | sbcAIxh | sbcAIxl | andIxh | andIxl | xorIxh | xorIxl | orIxh | orIxl | cpIxh | cpIxl | popIx | pushIx | exSpIx
  | jpIx | ldSpIx =>
    exact of_one .dd rfl rfl fun _ _ _ => rfl
  | incIy | decIy | incIyh | decIyh | incIyl | decIyl | addAIyh | addAIyl | adcAIyh | adcAIyl | subIyh | subIyl
  | sbcAIyh | sbcAIyl | andIyh | andIyl | xorIyh | xorIyl | orIyh | orIyl | cpIyh | cpIyl | popIy | pushIy | exSpIy
  | jpIy | ldSpIy =>
    exact of_one .fd rfl rfl fun _ _ _ => rfl
  -- a lone index prefix is told by the byte after it (R152); a bare prefix is not well-formed
  | aloneDdDd | aloneDdEd | aloneDdFd | aloneFdDd | aloneFdEd | aloneFdFd =>
    exact of_lone rfl fun _ _ => rfl
  | prefixCb | prefixDd | prefixEd | prefixFd | prefixDdCb | prefixFdCb =>
    cases h
  -- data bytes, which no table looks at
  | ldHlN n =>
    exact of_two .none rfl rfl fun _ _ => rfl
  | ldIxhN n | ldIxlN n | incIxd d | decIxd d | addAIxd d | adcAIxd d | subIxd d | sbcAIxd d | andIxd d | xorIxd d
  | orIxd d | cpIxd d =>
    exact of_two .dd rfl rfl fun _ _ => rfl
  | ldIyhN n | ldIylN n | incIyd d | decIyd d | addAIyd d | adcAIyd d | subIyd d | sbcAIyd d | andIyd d | xorIyd d
  | orIyd d | cpIyd d =>
    exact of_two .fd rfl rfl fun _ _ => rfl
  | ldIxdN d n | rlcIxd d | rrcIxd d | rlIxd d | rrIxd d | slaIxd d | sraIxd d | sllIxd d | srlIxd d =>
    exact of_three .dd rfl rfl fun _ => rfl
  | ldIydN d n | rlcIyd d | rrcIyd d | rlIyd d | rrIyd d | slaIyd d | sraIyd d | sllIyd d | srlIyd d =>
    exact of_three .fd rfl rfl fun _ => rfl
  -- an address, low byte first
  | ldNnHl nn | ldHlNn nn =>
    exact of_three .none rfl rfl fun _ => congrArg _ (joinBytes_hi_lo nn)
  | ldIxNn nn | ldMemIx nn | ldIxMem nn =>
    exact of_three .dd rfl rfl fun _ => congrArg _ (joinBytes_hi_lo nn)
  | ldIyNn nn | ldMemIy nn | ldIyMem nn =>
    exact of_three .fd rfl rfl fun _ => congrArg _ (joinBytes_hi_lo nn)
  -- an index prefix without effect (R166)
  | nop p | exAfAf p | ldBcA p | ldDeA p | ldABc p | ldADe p | rlca p | rrca p | rla p | rra p | daa p | cpl p | scf p
  | ccf p | halt p | ret p | exx p | exDeHl p | di p | ei p =>
    exact of_one p rfl rfl fun _ _ _ => by cases p <;> rfl
  | djnz p e | jrE p e | addAN p n | adcAN p n | subN p n | sbcAN p n | andN p n | xorN p n | orN p n | cpN p n
  | outNA p n | inAN p n =>
    exact of_two p rfl rfl fun _ _ => by cases p <;> rfl
  | ldNnA p nn | ldANn p nn | jpNn p nn | callNn p nn =>
    exact of_three p rfl rfl fun _ => by cases p <;> exact congrArg _ (joinBytes_hi_lo nn)
  -- a condition or a restart number, behind such a prefix or alone
  | retCc p cc =>
    exact of_one p rfl rfl fun _ _ _ => by cases p <;> cases cc <;> rfl
  | jrCcE p cc e =>
    exact of_two p rfl rfl fun _ _ => by cases p <;> cases cc <;> rfl
  | jpCcNn p cc nn | callCcNn p cc nn =>
    exact of_three p rfl rfl fun _ => by cases p <;> cases cc <;> exact congrArg _ (joinBytes_hi_lo nn)
  | rst p t =>
    exact of_one p rfl rfl fun _ _ _ => by cases p <;> fin_cases t <;> rfl
  -- a pair or a register, where the row admits it behind such a prefix
  | incSs p q | decSs p q | popQq p q | pushQq p q =>
    exact of_one p rfl rfl fun _ _ _ => by cases p <;> cases q <;> cases h <;> rfl
  | ldDdNn p q nn =>
    exact of_three p rfl rfl fun _ => by cases p <;> cases q <;> cases h <;> exact congrArg _ (joinBytes_hi_lo nn)
  | incR p r | decR p r | addAR p r | adcAR p r | subR p r | sbcAR p r | andR p r | xorR p r | orR p r | cpR p r =>
    exact of_one p rfl rfl fun _ _ _ => by cases p <;> cases r <;> cases h <;> rfl
  | ldRN p r n =>
    exact of_two p rfl rfl fun _ _ => by cases p <;> cases r <;> cases h <;> rfl
  | ldRR p dst r =>
    exact of_one p rfl rfl fun _ _ _ => by cases p <;> cases dst <;> cases r <;> cases h <;> rfl
  -- a pair or a register in the other rows
  | addHlSs q =>
    exact of_one .none rfl rfl fun _ _ _ => by cases q <;> rfl
  | addIxPp q =>
    exact of_one .dd rfl rfl fun _ _ _ => by cases q <;> rfl
  | addIyPp q =>
    exact of_one .fd rfl rfl fun _ _ _ => by cases q <;> rfl
  | sbcHlSs q | adcHlSs q =>
    exact of_two .none rfl rfl fun _ _ => by cases q <;> rfl
  | ldMemDd q nn | ldDdMem q nn =>
    exact of_four .none rfl rfl (by cases q <;> exact congrArg _ (joinBytes_hi_lo nn))
  | ldRHl r | ldHlR r =>
    exact of_one .none rfl rfl fun _ _ _ => by cases r <;> rfl
  | rlcR r | rrcR r | rlR r | rrR r | slaR r | sraR r | sllR r | srlR r | inRC r | outCR r =>
    exact of_two .none rfl rfl fun _ _ => by cases r <;> rfl
  | ldRIxd r d | ldIxdR r d =>
    exact of_two .dd rfl rfl fun _ _ => by cases r <;> rfl
  | rlcIxdR d r | rrcIxdR d r | rlIxdR d r | rrIxdR d r | slaIxdR d r | sraIxdR d r | sllIxdR d r | srlIxdR d r =>
    exact of_three .dd rfl rfl fun _ => by cases r <;> rfl
  | ldIxHalfR half r =>
    exact of_one .dd rfl rfl fun _ _ _ => by cases half <;> cases r <;> rfl
  | ldRIxHalf r half =>
    exact of_one .dd rfl rfl fun _ _ _ => by cases r <;> cases h <;> cases half <;> rfl
  | ldRIyd r d | ldIydR r d =>
    exact of_two .fd rfl rfl fun _ _ => by cases r <;> rfl
  | rlcIydR d r | rrcIydR d r | rlIydR d r | rrIydR d r | slaIydR d r | sraIydR d r | sllIydR d r | srlIydR d r =>
    exact of_three .fd rfl rfl fun _ => by cases r <;> rfl
  | ldIyHalfR half r =>
    exact of_one .fd rfl rfl fun _ _ _ => by cases half <;> cases r <;> rfl
  | ldRIyHalf r half =>
    exact of_one .fd rfl rfl fun _ _ _ => by cases r <;> cases h <;> cases half <;> rfl
  -- a bit number (R146, R163)
  | bitR b r | resR b r | setR b r | bitHl b | resHl b | setHl b =>
    refine of_two .none rfl rfl fun _ _ => ?_
    change decodeCb _ = _
    simp [decodeCb, fieldX_opXYZ, fieldY_opXYZ, fieldZ_opXYZ]
  | bitIxd b d z | resIxd b d | setIxd b d | resIxdR b d r | setIxdR b d r =>
    refine of_three .dd rfl rfl fun _ => ?_
    change decodeXyCb .ix d _ = _
    simp [decodeXyCb, Index.pick, fieldX_opXYZ, fieldY_opXYZ, fieldZ_opXYZ]
  | bitIyd b d z | resIyd b d | setIyd b d | resIydR b d r | setIydR b d r =>
    refine of_three .fd rfl rfl fun _ => ?_
    change decodeXyCb .iy d _ = _
    simp [decodeXyCb, Index.pick, fieldX_opXYZ, fieldY_opXYZ, fieldZ_opXYZ]
  -- the rows of the ED table with copies (R164, R166)
  | neg y | retn y | im0 y | im1 y | im2 y =>
    exact of_two .none rfl rfl fun _ _ => by fin_cases y <;> cases h <;> rfl
  | nopEd op =>
    exact of_two .none rfl rfl fun _ _ => decodeEd_eq_nopEd op _ _ (Bool.eq_false_of_not_eq_true' h)

/-- The bytes of `i` decide, whatever the bytes after them are. -/
theorem Instr.DecodesBack.decodeBytes_eq {i : Instr} (hi : i.DecodesBack) (bs : List Byte)
    (h : ∀ (k : Nat) (b : Byte), k < 4 → (encode i ++ lookahead i)[k]? = some b → bs.getD k 0 = b) :
    decodeBytes bs = i := by
  have hbyte (k : Nat) (hk : k < 4) :
      bs.getD k 0 = (encode i ++ (lookahead i ++ bs.drop (encode i ++ lookahead i).length)).getD k 0 := by
    rw [← List.append_assoc]
    rcases Nat.lt_or_ge k (encode i ++ lookahead i).length with hlt | hge
    · rw [List.getD_append _ _ _ _ hlt, List.getD_eq_getElem _ _ hlt]
      exact h k _ hk (List.getElem?_eq_getElem hlt)
    · rw [List.getD_append_right _ _ _ _ hge, List.getD_eq_getElem?_getD, List.getD_eq_getElem?_getD,
        List.getElem?_drop, Nat.add_sub_cancel' hge]
  calc decodeBytes bs
      = decodeBytes (encode i ++ (lookahead i ++ bs.drop (encode i ++ lookahead i).length)) := by
        unfold decodeBytes
        rw [hbyte 0 (by decide), hbyte 1 (by decide), hbyte 2 (by decide), hbyte 3 (by decide)]
    _ = i := hi _

namespace Machine

/-- Settles O2: the four bytes at `PC` decode to the instruction placed there, and O1 says what the step does. -/
theorem bytesPlacedAtPcAreExecuted : Obligations.BytesPlacedAtPcAreExecuted := by
  intro s i hawake htable hwf hplaced
  refine stepRunsTheDecodedInstruction s i hawake htable hwf ((decodesBack_of_wellFormed i hwf).decodeBytes_eq _ ?_)
  intro k b hk hb
  have hread := hplaced k b hb
  interval_cases k
  · rwa [BitVec.add_zero] at hread
  all_goals exact hread

end Machine

end Sys2Proof

end

section
/-! PROOFS. Decoding an encoding gives the instruction back (O5, O7). -/

namespace Sys2Proof.Machine

/-- Settles O5: the instruction is the one of `decodesBack_of_wellFormed`, and the rest is what stands behind it. -/
theorem decodeOfEncodeIsTheInstruction : Obligations.DecodeOfEncodeIsTheInstruction := by
  intro i rest hwf
  have hback : decodeBytes (encode i ++ (lookahead i ++ rest)) = i := decodesBack_of_wellFormed i hwf rest
  have hlength : instrLength i + (lookahead i).length ≤ (encode i ++ (lookahead i ++ rest)).length := by
    simp only [instrLength, List.length_append]
    omega
  have hrest : (encode i ++ (lookahead i ++ rest)).drop (instrLength i) = lookahead i ++ rest :=
    List.drop_left
  unfold decodeBytes at hback
  unfold decode
  simp only [hback, if_pos hlength, hrest]

/-- Settles O7: the decoder evaluates each word to its instruction. -/
theorem sampleWordsDecode : Obligations.SampleWordsDecode :=
  ⟨rfl, rfl, rfl, rfl, rfl, rfl, rfl, rfl, rfl, rfl, rfl⟩

end Sys2Proof.Machine

end

section
/-! PROOFS. Any four bytes begin with one well-formed instruction, and its encoding is those bytes (O6). -/

namespace Sys2Proof

/-! ### An opcode is put together from its fields (R142) -/

theorem fieldX_lt (op : Byte) : fieldX op < 4 := by
  unfold fieldX
  omega

theorem fieldY_lt (op : Byte) : fieldY op < 8 := Nat.mod_lt _ (by decide)

theorem fieldZ_lt (op : Byte) : fieldZ op < 8 := Nat.mod_lt _ (by decide)

theorem fieldP_lt (op : Byte) : fieldP op < 4 := Nat.mod_lt _ (by decide)

theorem fieldQ_lt (op : Byte) : fieldQ op < 2 := Nat.mod_lt _ (by decide)

theorem fieldX_eq_three {op : Byte} (h0 : fieldX op ≠ 0) (h1 : fieldX op ≠ 1) (h2 : fieldX op ≠ 2) : fieldX op = 3 := by
  have h := fieldX_lt op
  omega

theorem fieldZ_eq_seven {op : Byte} (h0 : fieldZ op ≠ 0) (h1 : fieldZ op ≠ 1) (h2 : fieldZ op ≠ 2) (h3 : fieldZ op ≠ 3)
    (h4 : fieldZ op ≠ 4) (h5 : fieldZ op ≠ 5) (h6 : fieldZ op ≠ 6) : fieldZ op = 7 := by
  have h := fieldZ_lt op
  omega

theorem fieldY_eq_seven {op : Byte} (h0 : fieldY op ≠ 0) (h1 : fieldY op ≠ 1) (h2 : fieldY op ≠ 2) (h3 : fieldY op ≠ 3)
    (h4 : fieldY op ≠ 4) (h5 : fieldY op ≠ 5) (h6 : fieldY op ≠ 6) : fieldY op = 7 := by
  have h := fieldY_lt op
  omega

/-- The field `y` is the fields `p` and `q`. -/
theorem fieldY_eq (op : Byte) : fieldY op = 2 * fieldP op + fieldQ op := by
  unfold fieldY fieldP fieldQ
  omega

theorem toNat_eq_fields (op : Byte) : op.toNat = 64 * fieldX op + 8 * fieldY op + fieldZ op := by
  unfold fieldX fieldY fieldZ
  omega

/-- A number made of the fields of `op` is the opcode `op`. -/
theorem ofNat_eq_of_fields {op : Byte} {n : Nat} (h : n = 64 * fieldX op + 8 * fieldY op + fieldZ op) :
    BitVec.ofNat 8 n = op := by
  rw [h, ← toNat_eq_fields, BitVec.ofNat_toNat, BitVec.setWidth_eq]

theorem opXYZ_eq_of_fields {op : Byte} {x y z : Nat} (hx : fieldX op = x) (hy : fieldY op = y) (hz : fieldZ op = z) :
    opXYZ x y z = op :=
  ofNat_eq_of_fields (by rw [hx, hy, hz])

/-! ### Operand codes name their operands (R13) -/

theorem Reg8.code_ofCode {k : Nat} (hk : k < 8) (h6 : k ≠ 6) : (Reg8.ofCode k).code = k := by
  have hcodes : ∀ k : Fin 8, k.val ≠ 6 → (Reg8.ofCode k.val).code = k.val := by decide
  exact hcodes ⟨k, hk⟩ h6

theorem XReg8.code_ofCode {k : Nat} (hk : k < 8) (h6 : k ≠ 6) : (XReg8.ofCode k).code = k := by
  have hcodes : ∀ k : Fin 8, k.val ≠ 6 → (XReg8.ofCode k.val).code = k.val := by decide
  exact hcodes ⟨k, hk⟩ h6

theorem Pair.code_ofCode {k : Nat} (hk : k < 4) : (Pair.ofCode k).code = k := by interval_cases k <;> rfl

theorem StackPair.code_ofCode {k : Nat} (hk : k < 4) : (StackPair.ofCode k).code = k := by interval_cases k <;> rfl

theorem IxPair.code_ofCode {k : Nat} (hk : k < 4) : (IxPair.ofCode k).code = k := by interval_cases k <;> rfl

theorem Cond.code_ofCode {k : Nat} (hk : k < 8) : (Cond.ofCode k).code = k := by interval_cases k <;> rfl

theorem JrCond.code_ofCode {k : Nat} (hk : k < 4) : (JrCond.ofCode k).code = k := by interval_cases k <;> rfl

theorem code3_val_of_lt {k : Nat} (hk : k < 8) : (code3 k).val = k := Nat.mod_eq_of_lt hk

/-! ### Which operands an index prefix leaves as they are (R150, R161, R323) -/

/-- A register other than `H` and `L` is one that every prefix leaves as it is. -/
theorem Pass.admits_ofCode {p : Pass} {k : Nat} (h : k = 4 ∨ k = 5 → p = .none) : p.admits (Reg8.ofCode k) = true := by
  by_cases hk : k = 4 ∨ k = 5
  · rw [h hk]
    rfl
  · obtain ⟨h4, h5⟩ := not_or.1 hk
    have hplain : (Reg8.ofCode k).plain = true := by
      unfold Reg8.ofCode
      split
      case h_5 => exact absurd rfl h4
      case h_6 => exact absurd rfl h5
      all_goals rfl
    cases p
    · rfl
    · exact hplain
    · exact hplain

theorem Pass.admitsPair_ofCode {p : Pass} {k : Nat} (hk : k < 4) (h : k = 2 → p = .none) :
    p.admitsPair (Pair.ofCode k) = true := by
  by_cases h2 : k = 2
  · rw [h h2]
    rfl
  · have hcodes : ∀ k : Fin 4, k.val ≠ 2 → Pair.ofCode k.val ≠ .hl := by decide
    have hother : decide (Pair.ofCode k ≠ .hl) = true := decide_eq_true (hcodes ⟨k, hk⟩ h2)
    cases p
    · rfl
    · exact hother
    · exact hother

theorem Pass.admitsStack_ofCode {p : Pass} {k : Nat} (hk : k < 4) (h : k = 2 → p = .none) :
    p.admitsStack (StackPair.ofCode k) = true := by
  by_cases h2 : k = 2
  · rw [h h2]
    rfl
  · have hcodes : ∀ k : Fin 4, k.val ≠ 2 → StackPair.ofCode k.val ≠ .hl := by decide
    have hother : decide (StackPair.ofCode k ≠ .hl) = true := decide_eq_true (hcodes ⟨k, hk⟩ h2)
    cases p
    · rfl
    · exact hother
    · exact hother

/-- The rows of the main table that become another one behind an index prefix (R150, R161): those that name `HL`,
`(HL)`, `H` or `L`, but `EX DE,HL`. -/
inductive IndexSensitive (op : Byte) : Prop
  /-- `LD HL,nn`, `ADD HL,ss` -/
  | pair (hx : fieldX op = 0) (hz : fieldZ op = 1) (h : fieldQ op = 1 ∨ fieldP op = 2)
  /-- `LD (nn),HL`, `LD HL,(nn)`, `INC HL`, `DEC HL` -/
  | hl (hx : fieldX op = 0) (hz : fieldZ op = 2 ∨ fieldZ op = 3) (hy : fieldY op = 4 ∨ fieldY op = 5)
  /-- `INC`, `DEC` and `LD n` of `H`, `L` and `(HL)` -/
  | count (hx : fieldX op = 0) (hz : 4 ≤ fieldZ op ∧ fieldZ op ≤ 6) (hy : 4 ≤ fieldY op ∧ fieldY op ≤ 6)
  /-- the loads to or from `H`, `L` and `(HL)`, in whose place `HALT` stands once -/
  | load (hx : fieldX op = 1) (hhalt : ¬(fieldY op = 6 ∧ fieldZ op = 6))
      (h : 4 ≤ fieldY op ∧ fieldY op ≤ 6 ∨ 4 ≤ fieldZ op ∧ fieldZ op ≤ 6)
  /-- the accumulator operations with `H`, `L` and `(HL)` -/
  | alu (hx : fieldX op = 2) (hz : 4 ≤ fieldZ op ∧ fieldZ op ≤ 6)
  /-- `POP HL`, `JP (HL)`, `LD SP,HL` -/
  | pop (hx : fieldX op = 3) (hz : fieldZ op = 1) (hy : fieldY op = 4 ∨ fieldY op = 5 ∨ fieldY op = 7)
  /-- `EX (SP),HL`, `PUSH HL` -/
  | stack (hx : fieldX op = 3) (hz : fieldZ op = 3 ∨ fieldZ op = 5) (hy : fieldY op = 4)

/-! ### What an instruction is encoded as, and what bytes begin with -/

/-- `i` is well-formed, its bytes are `bs`, and they decide by themselves. -/
def Instr.HasEncoding (i : Instr) (bs : List Byte) : Prop :=
  wellFormed i = true ∧ encode i = bs ∧ lookahead i = []

theorem Instr.HasEncoding.pick {x y : Instr} {bs : List Byte} (i : Index) (hix : x.HasEncoding (0xDD :: bs))
    (hiy : y.HasEncoding (0xFD :: bs)) : (i.pick x y).HasEncoding (i.pass.bytes ++ bs) := by
  cases i
  · exact hix
  · exact hiy

/-- The bytes `bs` begin with `i`: it is well-formed, its encoding is not empty, and the bytes are its encoding as far
as it goes. -/
structure Instr.Begins (i : Instr) (bs : List Byte) : Prop where
  wf : wellFormed i = true
  pos : 1 ≤ (encode i).length
  isPrefix : encode i ++ lookahead i <+: bs

/-- One opcode of a table: behind the bytes `pre` that select the table stand the opcode and the data of `i`. -/
theorem Instr.Begins.row {i : Instr} {pre data rest : List Byte} {code op : Byte} (hop : code = op)
    (hdata : data <+: rest) (hi : i.HasEncoding (pre ++ code :: data)) : i.Begins (pre ++ op :: rest) := by
  obtain ⟨hwf, hencode, hlook⟩ := hi
  subst hop
  refine ⟨hwf, ?_, ?_⟩
  · rw [hencode, List.length_append, List.length_cons]
    omega
  · rw [hencode, hlook, List.append_nil]
    exact (List.prefix_append_right_inj pre).2 ((List.prefix_cons_inj code).2 hdata)

section

variable {b b1 b2 code op : Byte} {bs : List Byte}

theorem byte_prefix : [b] <+: b :: bs := List.prefix_append [b] bs

theorem two_bytes_prefix : [b1, b2] <+: b1 :: b2 :: bs := List.prefix_append [b1, b2] bs

/-- An address stands low byte first (R109). -/
theorem word_prefix : [lo (joinBytes b2 b1), hi (joinBytes b2 b1)] <+: b1 :: b2 :: bs := by
  rw [lo_joinBytes, hi_joinBytes]
  exact two_bytes_prefix

/-- In the index-bit table the displacement stands before the opcode (R151). -/
theorem index_bit_prefix (hop : code = op) : [b, code] <+: b :: op :: bs := hop ▸ two_bytes_prefix

end

open Instr.Begins

/-! ### The operations that a field selects (R142) -/

section

variable (p : Pass) (i : Index) {y : Nat} (hy : y < 8) (r : Reg8) (d : Byte)
include hy

theorem hasEncoding_decodeAluR (hr : p.admits r = true) :
    (decodeAluR p y r).HasEncoding (p.bytes ++ [opXYZ 2 y r.code]) := by
  interval_cases y <;> exact ⟨hr, rfl, rfl⟩

theorem hasEncoding_decodeAluHl : (decodeAluHl y).HasEncoding [opXYZ 2 y 6] := by
  interval_cases y <;> exact ⟨rfl, rfl, rfl⟩

theorem hasEncoding_decodeAluN : (decodeAluN p y d).HasEncoding (p.bytes ++ [opXYZ 3 y 6, d]) := by
  interval_cases y <;> exact ⟨rfl, rfl, rfl⟩

theorem hasEncoding_decodeAluXyd : (decodeAluXyd i y d).HasEncoding (i.pass.bytes ++ [opXYZ 2 y 6, d]) := by
  interval_cases y <;> exact .pick i ⟨rfl, rfl, rfl⟩ ⟨rfl, rfl, rfl⟩

theorem hasEncoding_decodeAluXh : (decodeAluXh i y).HasEncoding (i.pass.bytes ++ [opXYZ 2 y 4]) := by
  interval_cases y <;> exact .pick i ⟨rfl, rfl, rfl⟩ ⟨rfl, rfl, rfl⟩

theorem hasEncoding_decodeAluXl : (decodeAluXl i y).HasEncoding (i.pass.bytes ++ [opXYZ 2 y 5]) := by
  interval_cases y <;> exact .pick i ⟨rfl, rfl, rfl⟩ ⟨rfl, rfl, rfl⟩

theorem hasEncoding_decodeRotR : (decodeRotR y r).HasEncoding [0xCB, opXYZ 0 y r.code] := by
  interval_cases y <;> exact ⟨rfl, rfl, rfl⟩

theorem hasEncoding_decodeRotHl : (decodeRotHl y).HasEncoding [0xCB, opXYZ 0 y 6] := by
  interval_cases y <;> exact ⟨rfl, rfl, rfl⟩

theorem hasEncoding_decodeRotXyd : (decodeRotXyd i y d).HasEncoding (i.pass.bytes ++ [0xCB, d, opXYZ 0 y 6]) := by
  interval_cases y <;> exact .pick i ⟨rfl, rfl, rfl⟩ ⟨rfl, rfl, rfl⟩

theorem hasEncoding_decodeRotXydR :
    (decodeRotXydR i y d r).HasEncoding (i.pass.bytes ++ [0xCB, d, opXYZ 0 y r.code]) := by
  interval_cases y <;> exact .pick i ⟨rfl, rfl, rfl⟩ ⟨rfl, rfl, rfl⟩

end

/-! ### The main table (R145) -/

section

variable {p : Pass} {op : Byte} (b1 b2 : Byte) (rest : List Byte)

theorem begins_decodeMain0 (hx : fieldX op = 0) (hp : IndexSensitive op → p = .none) :
    (decodeMain0 p op b1 b2).Begins (p.bytes ++ op :: b1 :: b2 :: rest) := by
  have hylt := fieldY_lt op
  have hypq := fieldY_eq op
  have hq2 := fieldQ_lt op
  have hpair := Pair.code_ofCode (fieldP_lt op)
  have hadmits (hz4 : 4 ≤ fieldZ op) (hz6 : fieldZ op ≤ 6) : p.admits (Reg8.ofCode (fieldY op)) = true :=
    Pass.admits_ofCode fun h => hp (.count hx ⟨hz4, hz6⟩ (by omega))
  unfold decodeMain0
  split
  case h_1 hz =>
    interval_cases hy : fieldY op
    · exact row (opXYZ_eq_of_fields hx hy hz) List.nil_prefix ⟨rfl, rfl, rfl⟩
    · exact row (opXYZ_eq_of_fields hx hy hz) List.nil_prefix ⟨rfl, rfl, rfl⟩
    all_goals exact row (opXYZ_eq_of_fields hx hy hz) byte_prefix ⟨rfl, rfl, rfl⟩
  case h_2 hz =>
    split_ifs with hq
    · have hwf := Pass.admitsPair_ofCode (fieldP_lt op) fun h => hp (.pair hx hz (.inr h))
      exact row (ofNat_eq_of_fields (by omega)) word_prefix ⟨hwf, rfl, rfl⟩
    · obtain rfl := hp (.pair hx hz (.inl (by omega)))
      exact row (pre := []) (ofNat_eq_of_fields (by omega)) List.nil_prefix ⟨rfl, rfl, rfl⟩
  case h_3 hz =>
    split
    case h_1 hy | h_2 hy | h_3 hy | h_4 hy =>
      exact row (opXYZ_eq_of_fields hx hy hz) List.nil_prefix ⟨rfl, rfl, rfl⟩
    case h_5 hy | h_6 hy =>
      obtain rfl := hp (.hl hx (.inl hz) (by omega))
      exact row (pre := []) (opXYZ_eq_of_fields hx hy hz) word_prefix ⟨rfl, rfl, rfl⟩
    case h_7 hy => exact row (opXYZ_eq_of_fields hx hy hz) word_prefix ⟨rfl, rfl, rfl⟩
    case h_8 h0 h1 h2 h3 h4 h5 h6 =>
      have hy := fieldY_eq_seven h0 h1 h2 h3 h4 h5 h6
      exact row (opXYZ_eq_of_fields hx hy hz) word_prefix ⟨rfl, rfl, rfl⟩
  case h_4 hz =>
    have hwf := Pass.admitsPair_ofCode (fieldP_lt op) fun h => hp (.hl hx (.inr hz) (by omega))
    split_ifs with hq
    · exact row (ofNat_eq_of_fields (by omega)) List.nil_prefix ⟨hwf, rfl, rfl⟩
    · exact row (ofNat_eq_of_fields (by omega)) List.nil_prefix ⟨hwf, rfl, rfl⟩
  case h_5 hz =>
    split_ifs with hy
    · obtain rfl := hp (.count hx (by omega) (by omega))
      exact row (pre := []) (opXYZ_eq_of_fields hx hy hz) List.nil_prefix ⟨rfl, rfl, rfl⟩
    · exact row (opXYZ_eq_of_fields hx (Reg8.code_ofCode hylt hy).symm hz) List.nil_prefix
        ⟨hadmits (by omega) (by omega), rfl, rfl⟩
  case h_6 hz =>
    split_ifs with hy
    · obtain rfl := hp (.count hx (by omega) (by omega))
      exact row (pre := []) (opXYZ_eq_of_fields hx hy hz) List.nil_prefix ⟨rfl, rfl, rfl⟩
    · exact row (opXYZ_eq_of_fields hx (Reg8.code_ofCode hylt hy).symm hz) List.nil_prefix
        ⟨hadmits (by omega) (by omega), rfl, rfl⟩
  case h_7 hz =>
    split_ifs with hy
    · obtain rfl := hp (.count hx (by omega) (by omega))
      exact row (pre := []) (opXYZ_eq_of_fields hx hy hz) byte_prefix ⟨rfl, rfl, rfl⟩
    · exact row (opXYZ_eq_of_fields hx (Reg8.code_ofCode hylt hy).symm hz) byte_prefix
        ⟨hadmits (by omega) (by omega), rfl, rfl⟩
  case h_8 h0 h1 h2 h3 h4 h5 h6 =>
    have hz := fieldZ_eq_seven h0 h1 h2 h3 h4 h5 h6
    interval_cases hy : fieldY op
    all_goals exact row (opXYZ_eq_of_fields hx hy hz) List.nil_prefix ⟨rfl, rfl, rfl⟩

theorem begins_decodeMain1 (hx : fieldX op = 1) (hp : IndexSensitive op → p = .none) :
    (decodeMain1 p op).Begins (p.bytes ++ op :: b1 :: b2 :: rest) := by
  have hylt := fieldY_lt op
  have hzlt := fieldZ_lt op
  unfold decodeMain1
  split_ifs with hy hz hz
  · exact row (opXYZ_eq_of_fields hx hy hz) List.nil_prefix ⟨rfl, rfl, rfl⟩
  · obtain rfl := hp (.load hx (by omega) (by omega))
    exact row (pre := []) (opXYZ_eq_of_fields hx hy (Reg8.code_ofCode hzlt hz).symm) List.nil_prefix ⟨rfl, rfl, rfl⟩
  · obtain rfl := hp (.load hx (by omega) (by omega))
    exact row (pre := []) (opXYZ_eq_of_fields hx (Reg8.code_ofCode hylt hy).symm hz) List.nil_prefix ⟨rfl, rfl, rfl⟩
  · have hdst : p.admits (Reg8.ofCode (fieldY op)) = true :=
      Pass.admits_ofCode fun h => hp (.load hx (by omega) (by omega))
    have hsrc : p.admits (Reg8.ofCode (fieldZ op)) = true :=
      Pass.admits_ofCode fun h => hp (.load hx (by omega) (by omega))
    exact row (opXYZ_eq_of_fields hx (Reg8.code_ofCode hylt hy).symm (Reg8.code_ofCode hzlt hz).symm) List.nil_prefix
      ⟨Bool.and_eq_true_iff.2 ⟨hdst, hsrc⟩, rfl, rfl⟩

theorem begins_decodeMain2 (hx : fieldX op = 2) (hp : IndexSensitive op → p = .none) :
    (decodeMain2 p op).Begins (p.bytes ++ op :: b1 :: b2 :: rest) := by
  have hylt := fieldY_lt op
  have hzlt := fieldZ_lt op
  unfold decodeMain2
  split_ifs with hz
  · obtain rfl := hp (.alu hx (by omega))
    exact row (pre := []) (opXYZ_eq_of_fields hx rfl hz) List.nil_prefix (hasEncoding_decodeAluHl hylt)
  · have hr : p.admits (Reg8.ofCode (fieldZ op)) = true :=
      Pass.admits_ofCode fun h => hp (.alu hx (by omega))
    exact row (opXYZ_eq_of_fields hx rfl (Reg8.code_ofCode hzlt hz).symm) List.nil_prefix
      (hasEncoding_decodeAluR p hylt _ hr)

/-- The four prefix bytes stand in this quarter (R141). -/
theorem begins_decodeMain3 (hx : fieldX op = 3) (hop : isPrefixByte op = false) (hp : IndexSensitive op → p = .none) :
    (decodeMain3 p op b1 b2).Begins (p.bytes ++ op :: b1 :: b2 :: rest) := by
  have hylt := fieldY_lt op
  have hypq := fieldY_eq op
  have hplt := fieldP_lt op
  have hqlt := fieldQ_lt op
  have hpair := StackPair.code_ofCode hplt
  obtain ⟨hcb, hxy⟩ := Machine.not_prefixByte_fields op hop (by omega) (by omega) (by omega)
  unfold decodeMain3
  split
  case h_1 hz => exact row (opXYZ_eq_of_fields hx (Cond.code_ofCode hylt).symm hz) List.nil_prefix ⟨rfl, rfl, rfl⟩
  case h_2 hz =>
    split_ifs with hq
    · have hwf := Pass.admitsStack_ofCode hplt fun h => hp (.pop hx hz (by omega))
      exact row (ofNat_eq_of_fields (by omega)) List.nil_prefix ⟨hwf, rfl, rfl⟩
    · split
      case h_1 hp0 => exact row (ofNat_eq_of_fields (n := 0xC9) (by omega)) List.nil_prefix ⟨rfl, rfl, rfl⟩
      case h_2 hp1 => exact row (ofNat_eq_of_fields (n := 0xD9) (by omega)) List.nil_prefix ⟨rfl, rfl, rfl⟩
      case h_3 hp2 =>
        obtain rfl := hp (.pop hx hz (by omega))
        exact row (pre := []) (ofNat_eq_of_fields (n := 0xE9) (by omega)) List.nil_prefix ⟨rfl, rfl, rfl⟩
      case h_4 hp0 hp1 hp2 =>
        have hp3 : fieldP op = 3 := by
          have h : fieldP op ≠ 0 ∧ fieldP op ≠ 1 ∧ fieldP op ≠ 2 := ⟨hp0, hp1, hp2⟩
          omega
        obtain rfl := hp (.pop hx hz (by omega))
        exact row (pre := []) (ofNat_eq_of_fields (n := 0xF9) (by omega)) List.nil_prefix ⟨rfl, rfl, rfl⟩
  case h_3 hz => exact row (opXYZ_eq_of_fields hx (Cond.code_ofCode hylt).symm hz) word_prefix ⟨rfl, rfl, rfl⟩
  case h_4 hz =>
    split
    case h_1 hy => exact row (opXYZ_eq_of_fields hx hy hz) word_prefix ⟨rfl, rfl, rfl⟩
    case h_2 hy => exact absurd hy (hcb hz)
    case h_3 hy | h_4 hy => exact row (opXYZ_eq_of_fields hx hy hz) byte_prefix ⟨rfl, rfl, rfl⟩
    case h_5 hy =>
      obtain rfl := hp (.stack hx (.inl hz) hy)
      exact row (pre := []) (opXYZ_eq_of_fields hx hy hz) List.nil_prefix ⟨rfl, rfl, rfl⟩
    case h_6 hy | h_7 hy => exact row (opXYZ_eq_of_fields hx hy hz) List.nil_prefix ⟨rfl, rfl, rfl⟩
    case h_8 h0 h1 h2 h3 h4 h5 h6 =>
      have hy := fieldY_eq_seven h0 h1 h2 h3 h4 h5 h6
      exact row (opXYZ_eq_of_fields hx hy hz) List.nil_prefix ⟨rfl, rfl, rfl⟩
  case h_5 hz => exact row (opXYZ_eq_of_fields hx (Cond.code_ofCode hylt).symm hz) word_prefix ⟨rfl, rfl, rfl⟩
  case h_6 hz =>
    split_ifs with hq
    · have hwf := Pass.admitsStack_ofCode hplt fun h => hp (.stack hx (.inr hz) (by omega))
      exact row (ofNat_eq_of_fields (by omega)) List.nil_prefix ⟨hwf, rfl, rfl⟩
    · have hp0 := hxy hz hq
      rw [hp0]
      exact row (ofNat_eq_of_fields (n := 0xCD) (by omega)) word_prefix ⟨rfl, rfl, rfl⟩
  case h_7 hz => exact row (opXYZ_eq_of_fields hx rfl hz) byte_prefix (hasEncoding_decodeAluN p hylt b1)
  case h_8 h0 h1 h2 h3 h4 h5 h6 =>
    have hz := fieldZ_eq_seven h0 h1 h2 h3 h4 h5 h6
    exact row (opXYZ_eq_of_fields hx (code3_val_of_lt hylt).symm hz) List.nil_prefix ⟨rfl, rfl, rfl⟩

/-- The main table, behind a prefix that leaves the row as it is. -/
theorem begins_decodeMain (hop : isPrefixByte op = false) (hp : IndexSensitive op → p = .none) :
    (decodeMain p op b1 b2).Begins (p.bytes ++ op :: b1 :: b2 :: rest) := by
  unfold decodeMain
  split
  case h_1 hx => exact begins_decodeMain0 b1 b2 rest hx hp
  case h_2 hx => exact begins_decodeMain1 b1 b2 rest hx hp
  case h_3 hx => exact begins_decodeMain2 b1 b2 rest hx hp
  case h_4 h0 h1 h2 => exact begins_decodeMain3 b1 b2 rest (fieldX_eq_three h0 h1 h2) hop hp

end

/-! ### The CB table (R146) and the ED table (R147) -/

theorem begins_decodeCb (op : Byte) (rest : List Byte) : (decodeCb op).Begins ([0xCB] ++ op :: rest) := by
  have hylt := fieldY_lt op
  have hbit := (code3_val_of_lt hylt).symm
  unfold decodeCb
  dsimp only
  split_ifs with hz
  · split
    case h_1 hx => exact row (opXYZ_eq_of_fields hx rfl hz) List.nil_prefix (hasEncoding_decodeRotHl hylt)
    case h_2 hx | h_3 hx => exact row (opXYZ_eq_of_fields hx hbit hz) List.nil_prefix ⟨rfl, rfl, rfl⟩
    case h_4 h0 h1 h2 =>
      have hx := fieldX_eq_three h0 h1 h2
      exact row (opXYZ_eq_of_fields hx hbit hz) List.nil_prefix ⟨rfl, rfl, rfl⟩
  · have hreg := (Reg8.code_ofCode (fieldZ_lt op) hz).symm
    split
    case h_1 hx => exact row (opXYZ_eq_of_fields hx rfl hreg) List.nil_prefix (hasEncoding_decodeRotR hylt _)
    case h_2 hx | h_3 hx => exact row (opXYZ_eq_of_fields hx hbit hreg) List.nil_prefix ⟨rfl, rfl, rfl⟩
    case h_4 h0 h1 h2 =>
      have hx := fieldX_eq_three h0 h1 h2
      exact row (opXYZ_eq_of_fields hx hbit hreg) List.nil_prefix ⟨rfl, rfl, rfl⟩

section

variable {op : Byte} (b2 b3 : Byte) (rest : List Byte)

/-- What R147 does not assign is a no-op of its own (R166). -/
theorem begins_nopEd (h : edAssigned op = false) : (Instr.nopEd op).Begins ([0xED] ++ op :: rest) :=
  row rfl List.nil_prefix ⟨by rw [wellFormed, h]; rfl, rfl, rfl⟩

theorem begins_decodeEd1 (hx : fieldX op = 1) : (decodeEd1 op b2 b3).Begins ([0xED] ++ op :: b2 :: b3 :: rest) := by
  have hylt := fieldY_lt op
  have hypq := fieldY_eq op
  have hqlt := fieldQ_lt op
  have hpair := Pair.code_ofCode (fieldP_lt op)
  have hcopy := (code3_val_of_lt hylt).symm
  unfold decodeEd1
  split
  case h_1 hz | h_2 hz =>
    split_ifs with hy
    · exact row (opXYZ_eq_of_fields hx hy hz) List.nil_prefix ⟨rfl, rfl, rfl⟩
    · exact row (opXYZ_eq_of_fields hx (Reg8.code_ofCode hylt hy).symm hz) List.nil_prefix ⟨rfl, rfl, rfl⟩
  case h_3 hz =>
    split_ifs with hq
    · exact row (ofNat_eq_of_fields (by omega)) List.nil_prefix ⟨rfl, rfl, rfl⟩
    · exact row (ofNat_eq_of_fields (by omega)) List.nil_prefix ⟨rfl, rfl, rfl⟩
  case h_4 hz =>
    split_ifs with hq
    · exact row (ofNat_eq_of_fields (by omega)) word_prefix ⟨rfl, rfl, rfl⟩
    · exact row (ofNat_eq_of_fields (by omega)) word_prefix ⟨rfl, rfl, rfl⟩
  case h_5 hz => exact row (opXYZ_eq_of_fields hx hcopy hz) List.nil_prefix ⟨rfl, rfl, rfl⟩
  case h_6 hz =>
    interval_cases hy : fieldY op
    all_goals exact row (opXYZ_eq_of_fields hx hy hz) List.nil_prefix ⟨rfl, rfl, rfl⟩
  case h_7 hz =>
    interval_cases hy : fieldY op
    all_goals exact row (opXYZ_eq_of_fields hx hy hz) List.nil_prefix ⟨rfl, rfl, rfl⟩
  case h_8 h0 h1 h2 h3 h4 h5 h6 =>
    have hz := fieldZ_eq_seven h0 h1 h2 h3 h4 h5 h6
    split
    case h_7 hy0 hy1 hy2 hy3 hy4 hy5 =>
      refine begins_nopEd _ ?_
      have hy : fieldY op ≠ 0 ∧ fieldY op ≠ 1 ∧ fieldY op ≠ 2 ∧ fieldY op ≠ 3 ∧ fieldY op ≠ 4 ∧ fieldY op ≠ 5 :=
        ⟨hy0, hy1, hy2, hy3, hy4, hy5⟩
      simp only [edAssigned, hx, decide_eq_false_iff_not]
      omega
    all_goals exact row (opXYZ_eq_of_fields hx ‹_› hz) List.nil_prefix ⟨rfl, rfl, rfl⟩

theorem begins_decodeEd2 (hx : fieldX op = 2) : (decodeEd2 op).Begins ([0xED] ++ op :: rest) := by
  by_cases h : fieldZ op < 4 ∧ 4 ≤ fieldY op
  · obtain ⟨hz4, hy4⟩ := h
    have hylt := fieldY_lt op
    unfold decodeEd2
    interval_cases hy : fieldY op <;> interval_cases hz : fieldZ op
    all_goals exact row (opXYZ_eq_of_fields hx hy hz) List.nil_prefix ⟨rfl, rfl, rfl⟩
  · rw [decodeEd2_eq_nopEd op h]
    exact begins_nopEd rest (by simpa only [edAssigned, hx, decide_eq_false_iff_not] using h)

theorem begins_decodeEd : (decodeEd op b2 b3).Begins ([0xED] ++ op :: b2 :: b3 :: rest) := by
  unfold decodeEd
  split
  case h_1 hx => exact begins_decodeEd1 b2 b3 rest hx
  case h_2 hx => exact begins_decodeEd2 _ hx
  case h_3 hx1 hx2 =>
    refine begins_nopEd _ ?_
    unfold edAssigned
    split
    · exact absurd ‹_› hx1
    · exact absurd ‹_› hx2
    · rfl

end

/-! ### Behind an index prefix (R150, R161) -/

section

variable (i : Index) {op : Byte} (b1 b2 : Byte) (rest : List Byte)

/-- A row that stays what it is. -/
theorem begins_decodeMain_pass (hop : isPrefixByte op = false) (hsame : ¬IndexSensitive op) :
    (decodeMain i.pass op b1 b2).Begins (i.pass.bytes ++ op :: b1 :: b2 :: rest) :=
  begins_decodeMain b1 b2 rest hop fun h => absurd h hsame

theorem begins_decodeXy0 (hx : fieldX op = 0) (hop : isPrefixByte op = false) :
    (decodeXy0 i op b1 b2).Begins (i.pass.bytes ++ op :: b1 :: b2 :: rest) := by
  have hypq := fieldY_eq op
  have hqlt := fieldQ_lt op
  have hpair := IxPair.code_ofCode (fieldP_lt op)
  have main := begins_decodeMain_pass i b1 b2 rest hop
  unfold decodeXy0
  dsimp only
  split
  case h_1 hz =>
    split_ifs with hq hp
    · exact row (ofNat_eq_of_fields (by omega)) List.nil_prefix (.pick i ⟨rfl, rfl, rfl⟩ ⟨rfl, rfl, rfl⟩)
    · exact row (ofNat_eq_of_fields (n := 0x21) (by omega)) word_prefix (.pick i ⟨rfl, rfl, rfl⟩ ⟨rfl, rfl, rfl⟩)
    · exact main fun h => by cases h <;> omega
  case h_2 hz =>
    split
    case h_1 hy | h_2 hy =>
      exact row (opXYZ_eq_of_fields hx hy hz) word_prefix (.pick i ⟨rfl, rfl, rfl⟩ ⟨rfl, rfl, rfl⟩)
    case h_3 hy4 hy5 =>
      have hy : fieldY op ≠ 4 ∧ fieldY op ≠ 5 := ⟨hy4, hy5⟩
      exact main fun h => by cases h <;> omega
  case h_3 hz =>
    split
    case h_1 hy | h_2 hy =>
      exact row (opXYZ_eq_of_fields hx hy hz) List.nil_prefix (.pick i ⟨rfl, rfl, rfl⟩ ⟨rfl, rfl, rfl⟩)
    case h_3 hy4 hy5 =>
      have hy : fieldY op ≠ 4 ∧ fieldY op ≠ 5 := ⟨hy4, hy5⟩
      exact main fun h => by cases h <;> omega
  case h_4 hz | h_5 hz =>
    split
    case h_1 hy | h_2 hy =>
      exact row (opXYZ_eq_of_fields hx hy hz) List.nil_prefix (.pick i ⟨rfl, rfl, rfl⟩ ⟨rfl, rfl, rfl⟩)
    case h_3 hy => exact row (opXYZ_eq_of_fields hx hy hz) byte_prefix (.pick i ⟨rfl, rfl, rfl⟩ ⟨rfl, rfl, rfl⟩)
    case h_4 hy4 hy5 hy6 =>
      have hy : fieldY op ≠ 4 ∧ fieldY op ≠ 5 ∧ fieldY op ≠ 6 := ⟨hy4, hy5, hy6⟩
      exact main fun h => by cases h <;> omega
  case h_6 hz =>
    split
    case h_1 hy | h_2 hy =>
      exact row (opXYZ_eq_of_fields hx hy hz) byte_prefix (.pick i ⟨rfl, rfl, rfl⟩ ⟨rfl, rfl, rfl⟩)
    case h_3 hy => exact row (opXYZ_eq_of_fields hx hy hz) two_bytes_prefix (.pick i ⟨rfl, rfl, rfl⟩ ⟨rfl, rfl, rfl⟩)
    case h_4 hy4 hy5 hy6 =>
      have hy : fieldY op ≠ 4 ∧ fieldY op ≠ 5 ∧ fieldY op ≠ 6 := ⟨hy4, hy5, hy6⟩
      exact main fun h => by cases h <;> omega
  case h_7 hz1 hz2 hz3 hz4 hz5 hz6 =>
    have hz : fieldZ op ≠ 1 ∧ fieldZ op ≠ 2 ∧ fieldZ op ≠ 3 ∧ fieldZ op ≠ 4 ∧ fieldZ op ≠ 5 ∧ fieldZ op ≠ 6 :=
      ⟨hz1, hz2, hz3, hz4, hz5, hz6⟩
    exact main fun h => by cases h <;> omega

theorem begins_decodeXy1 (hx : fieldX op = 1) (hop : isPrefixByte op = false) :
    (decodeXy1 i op b1 b2).Begins (i.pass.bytes ++ op :: b1 :: b2 :: rest) := by
  have hylt := fieldY_lt op
  have hzlt := fieldZ_lt op
  have main := begins_decodeMain_pass i b1 b2 rest hop
  unfold decodeXy1
  dsimp only
  split_ifs with hy hz hz hyhalf hzhalf
  · exact main fun h => by cases h <;> omega
  · exact row (opXYZ_eq_of_fields hx hy (Reg8.code_ofCode hzlt hz).symm) byte_prefix
      (.pick i ⟨rfl, rfl, rfl⟩ ⟨rfl, rfl, rfl⟩)
  · exact row (opXYZ_eq_of_fields hx (Reg8.code_ofCode hylt hy).symm hz) byte_prefix
      (.pick i ⟨rfl, rfl, rfl⟩ ⟨rfl, rfl, rfl⟩)
  · have hhalf : fieldY op = 4 + (Half.ofReg (fieldY op)).code := by
      rcases hyhalf with h | h <;> rw [h] <;> rfl
    exact row (opXYZ_eq_of_fields hx hhalf (XReg8.code_ofCode hzlt hz).symm) List.nil_prefix
      (.pick i ⟨rfl, rfl, rfl⟩ ⟨rfl, rfl, rfl⟩)
  · have hhalf : fieldZ op = 4 + (Half.ofReg (fieldZ op)).code := by
      rcases hzhalf with h | h <;> rw [h] <;> rfl
    have hplain : (Reg8.ofCode (fieldY op)).plain = true := Pass.admits_ofCode (p := .dd) fun h => absurd h hyhalf
    exact row (opXYZ_eq_of_fields hx (Reg8.code_ofCode hylt hy).symm hhalf) List.nil_prefix
      (.pick i ⟨hplain, rfl, rfl⟩ ⟨hplain, rfl, rfl⟩)
  · exact main fun h => by cases h <;> omega

theorem begins_decodeXy2 (hx : fieldX op = 2) (hop : isPrefixByte op = false) :
    (decodeXy2 i op b1 b2).Begins (i.pass.bytes ++ op :: b1 :: b2 :: rest) := by
  have hylt := fieldY_lt op
  unfold decodeXy2
  split
  case h_1 hz => exact row (opXYZ_eq_of_fields hx rfl hz) List.nil_prefix (hasEncoding_decodeAluXh i hylt)
  case h_2 hz => exact row (opXYZ_eq_of_fields hx rfl hz) List.nil_prefix (hasEncoding_decodeAluXl i hylt)
  case h_3 hz => exact row (opXYZ_eq_of_fields hx rfl hz) byte_prefix (hasEncoding_decodeAluXyd i hylt b1)
  case h_4 hz4 hz5 hz6 =>
    have hz : fieldZ op ≠ 4 ∧ fieldZ op ≠ 5 ∧ fieldZ op ≠ 6 := ⟨hz4, hz5, hz6⟩
    exact begins_decodeMain_pass i b1 b2 rest hop fun h => by cases h <;> omega

theorem begins_decodeXy3 (hx : fieldX op = 3) (hop : isPrefixByte op = false) :
    (decodeXy3 i op b1 b2).Begins (i.pass.bytes ++ op :: b1 :: b2 :: rest) := by
  unfold decodeXy3
  dsimp only
  split
  case h_6 hpop hjp hld hex hpush =>
    refine begins_decodeMain_pass i b1 b2 rest hop fun h => ?_
    cases h with
    | pop _ hz hy =>
      rcases hy with hy | hy | hy
      · exact hpop hz hy
      · exact hjp hz hy
      · exact hld hz hy
    | stack _ hz hy =>
      rcases hz with hz | hz
      · exact hex hz hy
      · exact hpush hz hy
    | _ => omega
  all_goals
    exact row (opXYZ_eq_of_fields hx ‹_› ‹_›) List.nil_prefix (.pick i ⟨rfl, rfl, rfl⟩ ⟨rfl, rfl, rfl⟩)

theorem begins_decodeXy (hop : isPrefixByte op = false) :
    (decodeXy i op b1 b2).Begins (i.pass.bytes ++ op :: b1 :: b2 :: rest) := by
  unfold decodeXy
  split
  case h_1 hx => exact begins_decodeXy0 i b1 b2 rest hx hop
  case h_2 hx => exact begins_decodeXy1 i b1 b2 rest hx hop
  case h_3 hx => exact begins_decodeXy2 i b1 b2 rest hx hop
  case h_4 h0 h1 h2 => exact begins_decodeXy3 i b1 b2 rest (fieldX_eq_three h0 h1 h2) hop

/-- The index-bit table (R151, R163). -/
theorem begins_decodeXyCb (d op : Byte) : (decodeXyCb i d op).Begins (i.pass.bytes ++ 0xCB :: d :: op :: rest) := by
  have hylt := fieldY_lt op
  have hzlt := fieldZ_lt op
  have hbit := (code3_val_of_lt hylt).symm
  have hreg (hz : fieldZ op ≠ 6) := (Reg8.code_ofCode hzlt hz).symm
  unfold decodeXyCb
  dsimp only
  split
  case h_1 hx =>
    split_ifs with hz
    · exact row rfl (index_bit_prefix (opXYZ_eq_of_fields hx rfl hz)) (hasEncoding_decodeRotXyd i hylt d)
    · exact row rfl (index_bit_prefix (opXYZ_eq_of_fields hx rfl (hreg hz))) (hasEncoding_decodeRotXydR i hylt _ d)
  case h_2 hx =>
    exact row rfl (index_bit_prefix (opXYZ_eq_of_fields hx hbit (code3_val_of_lt hzlt).symm))
      (.pick i ⟨rfl, rfl, rfl⟩ ⟨rfl, rfl, rfl⟩)
  case h_3 hx =>
    split_ifs with hz
    · exact row rfl (index_bit_prefix (opXYZ_eq_of_fields hx hbit hz)) (.pick i ⟨rfl, rfl, rfl⟩ ⟨rfl, rfl, rfl⟩)
    · exact row rfl (index_bit_prefix (opXYZ_eq_of_fields hx hbit (hreg hz))) (.pick i ⟨rfl, rfl, rfl⟩ ⟨rfl, rfl, rfl⟩)
  case h_4 h0 h1 h2 =>
    have hx := fieldX_eq_three h0 h1 h2
    split_ifs with hz
    · exact row rfl (index_bit_prefix (opXYZ_eq_of_fields hx hbit hz)) (.pick i ⟨rfl, rfl, rfl⟩ ⟨rfl, rfl, rfl⟩)
    · exact row rfl (index_bit_prefix (opXYZ_eq_of_fields hx hbit (hreg hz))) (.pick i ⟨rfl, rfl, rfl⟩ ⟨rfl, rfl, rfl⟩)

/-- A lone index prefix is one byte, and the byte after it tells that it is alone (R152). -/
theorem begins_alone {x y : Instr} {b : Byte} (hx : wellFormed x = true ∧ encode x = [0xDD] ∧ lookahead x = [b])
    (hy : wellFormed y = true ∧ encode y = [0xFD] ∧ lookahead y = [b]) :
    (i.pick x y).Begins (i.pass.bytes ++ b :: rest) := by
  obtain ⟨hwfx, hencx, hlookx⟩ := hx
  obtain ⟨hwfy, hency, hlooky⟩ := hy
  cases i
  · exact ⟨hwfx, by rw [Index.pick, hencx]; exact le_rfl, by rw [Index.pick, hencx, hlookx]; exact two_bytes_prefix⟩
  · exact ⟨hwfy, by rw [Index.pick, hency]; exact le_rfl, by rw [Index.pick, hency, hlooky]; exact two_bytes_prefix⟩

theorem begins_decodeIndexed (b1 b2 b3 : Byte) :
    (decodeIndexed i b1 b2 b3).Begins (i.pass.bytes ++ b1 :: b2 :: b3 :: rest) := by
  unfold decodeIndexed
  split_ifs with hdd hed hfd hcb
  · subst hdd; exact begins_alone i _ ⟨rfl, rfl, rfl⟩ ⟨rfl, rfl, rfl⟩
  · subst hed; exact begins_alone i _ ⟨rfl, rfl, rfl⟩ ⟨rfl, rfl, rfl⟩
  · subst hfd; exact begins_alone i _ ⟨rfl, rfl, rfl⟩ ⟨rfl, rfl, rfl⟩
  · subst hcb; exact begins_decodeXyCb i rest b2 b3
  · exact begins_decodeXy i b2 b3 rest (Machine.isPrefixByte_eq_false b1 hcb hed hdd hfd)

end

/-! ### The whole decoder (R141) -/

/-- Four bytes begin with what they decode to. -/
theorem begins_decode4 (b0 b1 b2 b3 : Byte) : (decode4 b0 b1 b2 b3).Begins [b0, b1, b2, b3] := by
  unfold decode4
  split_ifs with hcb hed hdd hfd
  · subst hcb; exact begins_decodeCb b1 [b2, b3]
  · subst hed; exact begins_decodeEd b2 b3 []
  · subst hdd; exact begins_decodeIndexed .ix [] b1 b2 b3
  · subst hfd; exact begins_decodeIndexed .iy [] b1 b2 b3
  · exact begins_decodeMain (p := .none) b1 b2 [b3] (Machine.isPrefixByte_eq_false b0 hcb hed hdd hfd) fun _ => rfl

namespace Machine

/-- Settles O6: by `begins_decode4`; an encoding that four bytes begin with has no more than four. -/
theorem everyByteSequenceIsAnInstruction : Obligations.EveryByteSequenceIsAnInstruction := by
  intro b0 b1 b2 b3 i
  have hi : i.Begins [b0, b1, b2, b3] := begins_decode4 b0 b1 b2 b3
  have hlength : (encode i).length ≤ 4 := ((List.prefix_append _ _).trans hi.isPrefix).length_le
  exact ⟨hi.wf, hi.pos, hlength, hi.isPrefix⟩

end Machine

end Sys2Proof

end

section
/-! PROOFS. No instruction and no step faults or is refused (O8). -/

namespace Sys2Proof.Machine

/-- Settles O8: a PREFIX row answers by itself and is not well-formed, every other instruction answers within its
bounds, and so does every step. -/
theorem nothingEverFails : Obligations.NothingEverFails := by
  refine ⟨fun i s => ?_, fun s h => ?_⟩
  · cases hi : selectsTable i with
    | true =>
      obtain ⟨table, ht⟩ := exec_of_selectsTable i s hi
      exact ⟨_, ht, fun hwf => absurd (selectsTable_of_wellFormed i hwf) (by simp [hi])⟩
    | false =>
      obtain ⟨t, ht, -, hcost⟩ := exec_answers i s hi
      exact ⟨t, ht, fun _ => hcost⟩
  · obtain ⟨t, ht, -, -, hcost⟩ := step_main s h
    exact ⟨t, ht, hcost⟩

end Sys2Proof.Machine

end

section
/-! PROOFS. The 8-bit loads (O16, O18). -/

namespace Sys2Proof.Machine

/-- A byte written to a register, nothing else (R13). -/
theorem State.setReg_spec (s : State) (r : Reg8) (v : Byte) (n : Nat) :
    CpuOnly s ((s.setReg r v).done n) n ∧ s.cpu.OnlyReg ((s.setReg r v).done n).cpu r v :=
  ⟨CpuOnly.intro rfl, Cpu.onlyReg_setReg s.cpu r v⟩

/-- Settles O16: each load is the write of one register, by `State.setReg_spec`. -/
theorem byteLoadsFillOneRegister : Obligations.ByteLoadsFillOneRegister := by
  intro s p r r' n d nn
  refine ⟨fun i => s.idxAddr_toNat i d, fun x hx => ?_⟩
  simp only [List.mem_cons, List.not_mem_nil, or_false] at hx
  rcases hx with rfl | rfl | rfl | rfl | rfl | rfl | rfl | rfl
  · exact ⟨_, rfl, s.setReg_spec r (s.reg r') _⟩
  · exact ⟨_, rfl, s.setReg_spec r n _⟩
  · exact ⟨_, rfl, s.setReg_spec r (s.busRead s.hl) 7⟩
  · exact ⟨_, rfl, s.setReg_spec r (s.busRead (s.idxAddr .ix d)) 19⟩
  · exact ⟨_, rfl, s.setReg_spec r (s.busRead (s.idxAddr .iy d)) 19⟩
  · exact ⟨_, rfl, s.setReg_spec .a (s.busRead s.bc) _⟩
  · exact ⟨_, rfl, s.setReg_spec .a (s.busRead s.de) _⟩
  · exact ⟨_, rfl, s.setReg_spec .a (s.busRead nn) _⟩

/-- Settles O18: each load is the write of an index register with one half kept, or of one register from a half. -/
theorem indexHalfLoads : Obligations.IndexHalfLoads := by
  intro s i n r x source
  have hsource : s.xreg i x = source := by cases x <;> rfl
  refine ⟨fun y hy => ?_, fun y hy => ?_, fun y hy => ?_⟩
  · rcases List.mem_pair.1 hy with rfl | rfl
    · exact ⟨_, by cases i <;> rfl, s.setIi_spec i (n ++ lo (s.ii i)) 11⟩
    · exact ⟨_, by rw [← hsource]; cases i <;> rfl, s.setIi_spec i (source ++ lo (s.ii i)) 8⟩
  · rcases List.mem_pair.1 hy with rfl | rfl
    · exact ⟨_, by cases i <;> rfl, s.setIi_spec i (hi (s.ii i) ++ n) 11⟩
    · exact ⟨_, by rw [← hsource]; cases i <;> rfl, s.setIi_spec i (hi (s.ii i) ++ source) 8⟩
  · rcases List.mem_pair.1 hy with rfl | rfl
    · exact ⟨_, by cases i <;> rfl, s.setReg_spec r (hi (s.ii i)) 8⟩
    · exact ⟨_, by cases i <;> rfl, s.setReg_spec r (lo (s.ii i)) 8⟩

end Sys2Proof.Machine

end

section
/-! PROOFS. Rotates and shifts (O40), bit tests and bit changes (O42, O43). -/

namespace Sys2Proof.Machine

/-! ### Rotates and shifts (R374 to R382) -/

/-- `ROT[y] r`: the result, the flags and the bit shifted out (R374). -/
theorem State.rotateReg_spec (s : State) (op : Rot) (r : Reg8) (n : Nat) (w : Byte) (out : Bool)
    (h : rotate op (s.reg r) s.cpu.cf = (w, out)) :
    let t := (s.rotateReg op r).done n
    CpuOnly s t n ∧ s.cpu.OnlyRegAndFlags t.cpu r w ∧
      t.cpu.Shows w ∧ t.cpu.hf = false ∧ t.cpu.pf = evenOnes w ∧ t.cpu.nf = false ∧ t.cpu.cf = out := by
  have hcpu : ((s.rotateReg op r).done n).cpu = { s.cpu.setReg r w with f := rotFlags w out } := by
    simp only [State.rotateReg, h]
    rfl
  refine ⟨CpuOnly.intro rfl, ?_⟩
  rw [hcpu]
  exact ⟨Cpu.onlyRegAndFlags_setReg s.cpu r w _, rotFlags_spec (s.cpu.setReg r w) w out⟩

/-- `ROT[y]` of a memory byte: what is stored, the flags and the bit shifted out (R374). -/
theorem State.rotateMem_frame (s : State) (op : Rot) (a : Word) (n : Nat) (w : Byte) (out : Bool)
    (h : rotate op (s.busRead a) s.cpu.cf = (w, out)) :
    let t := (s.rotateMem op a).done n
    StoresByte s t a w n ∧ t.cpu = { s.cpu with f := t.cpu.f } ∧
      t.cpu.Shows w ∧ t.cpu.hf = false ∧ t.cpu.pf = evenOnes w ∧ t.cpu.nf = false ∧ t.cpu.cf = out := by
  obtain ⟨hstore, hcpu⟩ := s.rotateMem_spec op a n
  rw [h] at hstore hcpu
  refine ⟨hstore, ?_⟩
  rw [hcpu]
  exact ⟨rfl, rotFlags_spec s.cpu w out⟩

/-- `ROT[y] (ii+d),r`: the result is stored and copied (R163, R374). -/
theorem State.rotateMemReg_frame (s : State) (op : Rot) (a : Word) (r : Reg8) (n : Nat) (w : Byte) (out : Bool)
    (h : rotate op (s.busRead a) s.cpu.cf = (w, out)) :
    let t := (s.rotateMemReg op a r).done n
    StoresByte s t a w n ∧ s.cpu.OnlyRegAndFlags t.cpu r w ∧
      t.cpu.Shows w ∧ t.cpu.hf = false ∧ t.cpu.pf = evenOnes w ∧ t.cpu.nf = false ∧ t.cpu.cf = out := by
  obtain ⟨hstore, hcpu⟩ := s.rotateMemReg_spec op a r n
  rw [h] at hstore hcpu
  refine ⟨hstore, ?_⟩
  rw [hcpu]
  exact ⟨Cpu.onlyRegAndFlags_setReg s.cpu r w _, rotFlags_spec (s.cpu.setReg r w) w out⟩

/-- The instructions of `x` rotate by `op`, and the numbers of `x` are those of `op` (R142, R374). -/
structure Rotation.Means (x : Rotation) (op : Rot) (s : State) : Prop where
  reg : ∀ r, exec (x.reg r) s = .next ((s.rotateReg op r).done 8)
  hl : exec x.hl s = .next ((s.rotateMem op s.hl).done 15)
  ixd : ∀ d, exec (x.ixd d) s = .next ((s.rotateMem op (s.idxAddr .ix d)).done 23)
  iyd : ∀ d, exec (x.iyd d) s = .next ((s.rotateMem op (s.idxAddr .iy d)).done 23)
  ixdR : ∀ d r, exec (x.ixdR d r) s = .next ((s.rotateMemReg op (s.idxAddr .ix d) r).done 23)
  iydR : ∀ d r, exec (x.iydR d r) s = .next ((s.rotateMemReg op (s.idxAddr .iy d) r).done 23)
  numbers : ∀ (v : Byte) (cf : Bool),
    rotate op v cf = (BitVec.ofNat 8 (x.result v.toNat cf.toNat), decide (x.out v.toNat = 1))

/-- Each of the eight rotates and shifts has its operation (R375 to R382). -/
theorem exists_means_of_mem_rotations (s : State) (x : Rotation) (hx : x ∈ rotations) : ∃ op, x.Means op s := by
  simp only [rotations, List.mem_cons, List.not_mem_nil, or_false] at hx
  rcases hx with rfl | rfl | rfl | rfl | rfl | rfl | rfl | rfl
  · exact ⟨.rlc, fun _ => rfl, rfl, fun _ => rfl, fun _ => rfl, fun _ _ => rfl, fun _ _ => rfl, rotate_eq .rlc⟩
  · exact ⟨.rrc, fun _ => rfl, rfl, fun _ => rfl, fun _ => rfl, fun _ _ => rfl, fun _ _ => rfl, rotate_eq .rrc⟩
  · exact ⟨.rl, fun _ => rfl, rfl, fun _ => rfl, fun _ => rfl, fun _ _ => rfl, fun _ _ => rfl, rotate_eq .rl⟩
  · exact ⟨.rr, fun _ => rfl, rfl, fun _ => rfl, fun _ => rfl, fun _ _ => rfl, fun _ _ => rfl, rotate_eq .rr⟩
  · exact ⟨.sla, fun _ => rfl, rfl, fun _ => rfl, fun _ => rfl, fun _ _ => rfl, fun _ _ => rfl, rotate_eq .sla⟩
  · exact ⟨.sra, fun _ => rfl, rfl, fun _ => rfl, fun _ => rfl, fun _ _ => rfl, fun _ _ => rfl, rotate_eq .sra⟩
  · exact ⟨.sll, fun _ => rfl, rfl, fun _ => rfl, fun _ => rfl, fun _ _ => rfl, fun _ _ => rfl, rotate_eq .sll⟩
  · exact ⟨.srl, fun _ => rfl, rfl, fun _ => rfl, fun _ => rfl, fun _ _ => rfl, fun _ _ => rfl, rotate_eq .srl⟩

/-- Settles O40: each form is its shared operation at its address, and the numbers are those of `rotate_eq`. -/
theorem rotatesAndShifts : Obligations.RotatesAndShifts := by
  intro s d r x hx
  obtain ⟨op, hop⟩ := exists_means_of_mem_rotations s x hx
  exact ⟨⟨_, hop.reg r, s.rotateReg_spec op r 8 _ _ (hop.numbers _ _)⟩,
    ⟨_, hop.hl, s.rotateMem_frame op _ 15 _ _ (hop.numbers _ _)⟩,
    ⟨_, hop.ixd d, s.rotateMem_frame op _ 23 _ _ (hop.numbers _ _)⟩,
    ⟨_, hop.iyd d, s.rotateMem_frame op _ 23 _ _ (hop.numbers _ _)⟩,
    ⟨_, hop.ixdR d r, s.rotateMemReg_frame op _ r 23 _ _ (hop.numbers _ _)⟩,
    ⟨_, hop.iydR d r, s.rotateMemReg_frame op _ r 23 _ _ (hop.numbers _ _)⟩⟩

/-! ### Bits (R400 to R410) -/

/-- The flags of `BIT b` (R400 to R402), in any CPU that takes them. -/
theorem bitFlags_spec (c : Cpu) (v : Byte) (b : Nat) (yf xf cf : Bool) :
    let d : Cpu := { c with f := bitFlags v b yf xf cf }
    (d.zf = (!v.getLsbD b) ∧ d.pf = (!v.getLsbD b) ∧ d.sf = decide (b = 7 ∧ v.getLsbD 7 = true) ∧ d.hf = true ∧
      d.nf = false ∧ d.cf = cf) ∧ d.yf = yf ∧ d.xf = xf := by
  have hsf : (decide (b = 7) && bitOf v b) = decide (b = 7 ∧ v.getLsbD 7 = true) := by
    by_cases hb : b = 7
    · simp [hb, bitOf]
    · simp [hb]
  dsimp only
  unfold bitFlags
  rw [← hsf]
  exact ⟨⟨packF_zf .., packF_pf .., packF_sf .., packF_hf .., packF_nf .., packF_cf ..⟩, packF_yf .., packF_xf ..⟩

/-- `BIT b,(ii+d)` at the address `a` (R402). -/
theorem State.bitIndexed_spec (s : State) (a : Word) (b n : Nat) :
    let t := (s.bitIndexed a b).done n
    CpuOnly s t n ∧
      (t.cpu = { s.cpu with f := t.cpu.f } ∧ t.cpu.zf = (!(s.busRead a).getLsbD b) ∧
        t.cpu.pf = (!(s.busRead a).getLsbD b) ∧ t.cpu.sf = decide (b = 7 ∧ (s.busRead a).getLsbD 7 = true) ∧
        t.cpu.hf = true ∧ t.cpu.nf = false ∧ t.cpu.cf = s.cpu.cf) ∧
      t.cpu.yf = a.getLsbD 13 ∧ t.cpu.xf = a.getLsbD 11 := by
  obtain ⟨hflags, hyx⟩ := bitFlags_spec s.cpu (s.busRead a) b (a.getLsbD 13) (a.getLsbD 11) s.cpu.cf
  exact ⟨CpuOnly.intro rfl, ⟨rfl, hflags⟩, hyx⟩

/-- Settles O42: the flags of each form are those of `bitFlags` for its operand. -/
theorem bitTests : Obligations.BitTests := by
  intro s b z r d
  refine ⟨?_, ?_, fun x hx => ?_⟩
  · obtain ⟨hflags, hyx⟩ := bitFlags_spec s.cpu (s.reg r) b.val (bitOf (s.reg r) 5) (bitOf (s.reg r) 3) s.cpu.cf
    exact ⟨_, rfl, CpuOnly.intro rfl, ⟨rfl, hflags⟩, hyx⟩
  · obtain ⟨hflags, -⟩ :=
      bitFlags_spec s.cpu (s.busRead s.hl) b.val (Config.drawYF s.draws) (Config.drawXF s.draws) s.cpu.cf
    exact ⟨_, rfl, CpuOnly.intro rfl, rfl, hflags⟩
  · rcases List.mem_pair.1 hx with rfl | rfl
    · exact ⟨_, rfl, s.bitIndexed_spec (s.idxAddr .ix d) b.val 20⟩
    · exact ⟨_, rfl, s.bitIndexed_spec (s.idxAddr .iy d) b.val 20⟩

/-- A byte written to the bus, nothing else (R109). -/
theorem State.busWrite_spec (s : State) (a : Word) (v : Byte) (n : Nat) :
    StoresByte s ((s.busWrite a v).done n) a v n ∧ ((s.busWrite a v).done n).cpu = s.cpu :=
  ⟨StoresByte.intro rfl, s.busWrite_cpu a v⟩

/-- A byte written to the bus and to a register (R163). -/
theorem State.busWrite_setReg_spec (s : State) (a : Word) (r : Reg8) (v : Byte) (n : Nat) :
    let t := ((s.busWrite a v).setReg r v).done n
    StoresByte s t a v n ∧ s.cpu.OnlyReg t.cpu r v := by
  refine ⟨StoresByte.intro rfl, ?_⟩
  show s.cpu.OnlyReg ((s.busWrite a v).cpu.setReg r v) r v
  rw [s.busWrite_cpu]
  exact Cpu.onlyReg_setReg s.cpu r v

/-- The instructions of `x` put `change v` where they read `v`: the forms of `SET b` and `RES b` (R403 to R410). -/
structure BitChange.Means (x : BitChange) (change : Byte → Byte) (s : State) (r : Reg8) (d : Byte) : Prop where
  reg : exec x.reg s = .next ((s.setReg r (change (s.reg r))).done 8)
  hl : exec x.hl s = .next ((s.busWrite s.hl (change (s.busRead s.hl))).done 15)
  ixd : exec x.ixd s = .next ((s.busWrite (s.idxAddr .ix d) (change (s.busRead (s.idxAddr .ix d)))).done 23)
  iyd : exec x.iyd s = .next ((s.busWrite (s.idxAddr .iy d) (change (s.busRead (s.idxAddr .iy d)))).done 23)
  ixdR : exec x.ixdR s =
    .next (((s.busWrite (s.idxAddr .ix d) (change (s.busRead (s.idxAddr .ix d)))).setReg r
      (change (s.busRead (s.idxAddr .ix d)))).done 23)
  iydR : exec x.iydR s =
    .next (((s.busWrite (s.idxAddr .iy d) (change (s.busRead (s.idxAddr .iy d)))).setReg r
      (change (s.busRead (s.idxAddr .iy d)))).done 23)

/-- `SET b` and `RES b` each change one bit of a byte, the same way in every form (R403, R407). -/
theorem exists_means_of_mem_bitChanges (s : State) (b : Code3) (r : Reg8) (d : Byte) (x : BitChange)
    (hx : x ∈ bitChanges b r d) :
    ∃ change : Byte → Byte, x.Means change s r d ∧
      ∀ v k, k < 8 → (change v).getLsbD k = if k = b.val then x.value else v.getLsbD k := by
  rcases List.mem_pair.1 hx with rfl | rfl
  · exact ⟨(setBitOf · b.val), ⟨rfl, rfl, rfl, rfl, rfl, rfl⟩, fun v => (setBitOf_resBitOf_bits v b).1⟩
  · exact ⟨(resBitOf · b.val), ⟨rfl, rfl, rfl, rfl, rfl, rfl⟩, fun v => (setBitOf_resBitOf_bits v b).2⟩

/-- Settles O43: each form puts the changed byte back where it read it, or in its register too. -/
theorem bitChanges_changeOneBit : Obligations.BitChanges := by
  intro s b r d x hx
  obtain ⟨change, hop, hbits⟩ := exists_means_of_mem_bitChanges s b r d x hx
  exact ⟨⟨_, _, hop.reg, hbits _, s.setReg_spec r _ 8⟩,
    ⟨_, _, hop.hl, hbits _, s.busWrite_spec s.hl _ 15⟩,
    ⟨_, _, hop.ixd, hbits _, s.busWrite_spec (s.idxAddr .ix d) _ 23⟩,
    ⟨_, _, hop.iyd, hbits _, s.busWrite_spec (s.idxAddr .iy d) _ 23⟩,
    ⟨_, _, hop.ixdR, hbits _, s.busWrite_setReg_spec (s.idxAddr .ix d) r _ 23⟩,
    ⟨_, _, hop.iydR, hbits _, s.busWrite_setReg_spec (s.idxAddr .iy d) r _ 23⟩⟩

end Sys2Proof.Machine

end

section
/-! PROOFS. No-operations, interrupt control and the bare prefixes (O32, O33). -/

namespace Sys2Proof.Machine

/-- Settles O32: each instruction is one record update at its cost. -/
theorem noOperationsAndInterruptControl : Obligations.NoOperationsAndInterruptControl := by
  intro s p op y
  refine ⟨fun x hx => ?_, fun x hx => ?_⟩ <;> simp only [List.mem_cons, List.not_mem_nil, or_false] at hx
  · rcases hx with rfl | rfl | rfl | rfl | rfl | rfl | rfl | rfl
    all_goals rfl
  · rcases hx with rfl | rfl | rfl | rfl | rfl | rfl
    all_goals rfl

/-- Settles O33: each PREFIX row is the selection of its table, at no cost. -/
theorem barePrefixesSelectATable : Obligations.BarePrefixesSelectATable := by
  intro s x hx
  simp only [List.mem_cons, List.not_mem_nil, or_false] at hx
  rcases hx with rfl | rfl | rfl | rfl | rfl | rfl
  all_goals rfl

end Sys2Proof.Machine

end

section
/-! PROOFS. The 8-bit stores (O17) and the loads of and from `I` and `R` (O19). -/

namespace Sys2Proof.Machine

/-- Settles O17: each store is one bus write, by `State.busWrite_spec`. -/
theorem byteStoresWriteOneByte : Obligations.ByteStoresWriteOneByte := by
  intro s p r n d nn x hx
  simp only [List.mem_cons, List.not_mem_nil, or_false] at hx
  rcases hx with rfl | rfl | rfl | rfl | rfl | rfl | rfl | rfl | rfl
  · exact ⟨_, rfl, s.busWrite_spec s.hl (s.reg r) 7⟩
  · exact ⟨_, rfl, s.busWrite_spec s.hl n 10⟩
  · exact ⟨_, rfl, s.busWrite_spec (s.idxAddr .ix d) (s.reg r) 19⟩
  · exact ⟨_, rfl, s.busWrite_spec (s.idxAddr .iy d) (s.reg r) 19⟩
  · exact ⟨_, rfl, s.busWrite_spec (s.idxAddr .ix d) n 19⟩
  · exact ⟨_, rfl, s.busWrite_spec (s.idxAddr .iy d) n 19⟩
  · exact ⟨_, rfl, s.busWrite_spec s.bc s.cpu.a _⟩
  · exact ⟨_, rfl, s.busWrite_spec s.de s.cpu.a _⟩
  · exact ⟨_, rfl, s.busWrite_spec nn s.cpu.a _⟩

/-- `LD A,v` of the interrupt page or the refresh register: the byte, and its flags with `IFF2` in `PF` and `CF` kept
(R214, R215). -/
theorem State.setReg_setF_loadIRFlags_spec (s : State) (v : Byte) (n : Nat) :
    let t := ((s.setReg .a v).setF (loadIRFlags v s.cpu.iff2 s.cpu.cf)).done n
    CpuOnly s t n ∧ s.cpu.OnlyRegAndFlags t.cpu .a v ∧ t.cpu.Shows v ∧
      t.cpu.hf = false ∧ t.cpu.nf = false ∧ t.cpu.pf = s.cpu.iff2 ∧ t.cpu.cf = s.cpu.cf := by
  obtain ⟨hshows, hhf, hpf, hnf, hcf⟩ := shows_szyxF (s.cpu.setReg .a v) v false s.cpu.iff2 false s.cpu.cf
  exact ⟨CpuOnly.intro rfl, Cpu.onlyRegAndFlags_setReg s.cpu .a v _, hshows, hhf, hnf, hpf, hcf⟩

/-- Settles O19: the loads of `A` by `State.setReg_setF_loadIRFlags_spec`; the loads from it change one field. -/
theorem interruptPageAndRefreshLoads : Obligations.InterruptPageAndRefreshLoads := by
  intro s
  refine ⟨fun x hx => ?_, ⟨_, rfl, CpuOnly.intro rfl, rfl⟩, ⟨_, rfl, CpuOnly.intro rfl, rfl⟩⟩
  rcases List.mem_pair.1 hx with rfl | rfl
  · exact ⟨_, rfl, s.setReg_setF_loadIRFlags_spec s.cpu.i 9⟩
  · exact ⟨_, rfl, s.setReg_setF_loadIRFlags_spec s.cpu.r 9⟩

end Sys2Proof.Machine

end

section
/-! PROOFS. The pops (O22). -/

namespace Sys2Proof.Machine

/-- The high byte of `Pop16()` is the one at `SP + 1` (R13). -/
@[simp] theorem State.hi_popValue (s : State) : hi s.popValue = s.busRead (s.cpu.sp + 1) := hi_joinBytes _ _

/-- The low byte of `Pop16()` is the one at `SP` (R13). -/
@[simp] theorem State.lo_popValue (s : State) : lo s.popValue = s.busRead s.cpu.sp := lo_joinBytes _ _

/-- `ii <- Pop16()`: only the CPU changes, to the registers with `SP` two higher and the word popped in `ii` (R243). -/
theorem State.popped_setIi_spec (s : State) (i : Index) (n : Nat) :
    let t := (s.popped.setIi i s.popValue).done n
    CpuOnly s t n ∧ t.cpu = ({ s.cpu with sp := s.cpu.sp + 2 } : Cpu).setIi i s.popValue :=
  ⟨CpuOnly.intro rfl, rfl⟩

/-- `POP qq`: the cost, the frame and the registers left, in one statement for all four pairs (R242). -/
theorem exec_popQq (s : State) (p : Pass) (q : StackPair) {c : Cpu}
    (hc : ({ s.cpu with sp := s.cpu.sp + 2 } : Cpu).setRp2 q s.popValue = c) :
    ∃ t, exec (.popQq p q) s = .next t ∧ CpuOnly s t (10 + p.extra) ∧ t.cpu = c :=
  ⟨_, rfl, CpuOnly.intro rfl, hc⟩

/-- Settles O22: a pop of a pair splits `Pop16()` into its halves, a pop of an index register takes it whole. -/
theorem popsReadLowByteFirst : Obligations.PopsReadLowByteFirst := by
  intro s p low high
  refine ⟨exec_popQq s p .bc ?_, exec_popQq s p .de ?_, exec_popQq s p .hl ?_, exec_popQq s p .af ?_,
    ⟨_, rfl, s.popped_setIi_spec .ix 14⟩, ⟨_, rfl, s.popped_setIi_spec .iy 14⟩⟩
  all_goals simp only [Cpu.setRp2, s.hi_popValue, s.lo_popValue, low, high]

end Sys2Proof.Machine

end

section
/-! PROOFS. Block transfer (O25) and block search (O26). -/

namespace Sys2Proof.Machine

/-- The number that a pointer moves by in direction `d` (R265, R267). -/
def Dir.step (d : Dir) : Word :=
  match d with
  | .up => 1 | .down => -1

theorem Dir.advance_eq_add_step (d : Dir) (v : Word) : d.advance v = v + d.step := by
  cases d with
  | up => rfl
  | down => exact sub_eq_add_neg v 1

/-- The flags of a CPU whose `F` was packed from eight bits (R26). -/
theorem Cpu.flags_of_packF {c : Cpu} {sf zf yf hf xf pf nf cf : Bool} (h : c.f = packF sf zf yf hf xf pf nf cf) :
    c.sf = sf ∧ c.zf = zf ∧ c.yf = yf ∧ c.hf = hf ∧ c.xf = xf ∧ c.pf = pf ∧ c.nf = nf ∧ c.cf = cf := by
  have hbits := bitOf_packF sf zf yf hf xf pf nf cf
  rwa [← h] at hbits

/-- The end of an iteration touches only the CPU and the cost (R266). -/
theorem State.repeatIf_frame (s : State) (again : Bool) :
    s.repeatIf again = { s with cpu := (s.repeatIf again).cpu, cycles := if again then 21 else 16 } := by
  cases again <;> rfl

/-- The end of an iteration changes no register but `PC` (R266). -/
theorem State.repeatIf_cpu (s : State) (again : Bool) :
    (s.repeatIf again).cpu = { s.cpu with pc := if again then s.cpu.pc - 2 else s.cpu.pc } := by
  rw [s.repeatIf_eq again]

/-- The end of an iteration keeps the pairs and `F` (R266). -/
theorem State.repeatIf_pairs_and_f (s : State) (again : Bool) :
    (s.repeatIf again).hl = s.hl ∧ (s.repeatIf again).de = s.de ∧ (s.repeatIf again).bc = s.bc ∧
      (s.repeatIf again).cpu.f = s.cpu.f := by
  rw [s.repeatIf_eq again]
  exact ⟨rfl, rfl, rfl, rfl⟩

/-! ### Block transfer (R265 to R268) -/

/-- The flags of a CPU whose `F` a block transfer wrote (R265). -/
theorem ldBlockFlags_spec {c old : Cpu} {v : Byte} {bc : Word} (h : c.f = ldBlockFlags old v bc) :
    let n := v + old.a
    c.hf = false ∧ c.nf = false ∧ c.pf = decide (bc ≠ 0) ∧ c.yf = n.getLsbD 1 ∧ c.xf = n.getLsbD 3 ∧
      c.sf = old.sf ∧ c.zf = old.zf ∧ c.cf = old.cf := by
  obtain ⟨hsf, hzf, hyf, hhf, hxf, hpf, hnf, hcf⟩ := Cpu.flags_of_packF h
  exact ⟨hhf, hnf, hpf, hyf, hxf, hsf, hzf, hcf⟩

/-- The repeat test of `LDIR`, `LDDR` looks at the decremented counter (R266). -/
theorem State.repeatLoad_blockLoad (s : State) (d : Dir) :
    (s.blockLoad d).repeatLoad = (s.blockLoad d).repeatIf (decide (s.bc - 1 ≠ 0)) := by
  obtain ⟨-, -, -, hbc, -⟩ := s.blockLoad_spec d
  rw [State.repeatLoad, hbc]

/-- One step of a block transfer, which goes back to its first byte where `again` holds (R265, R266). -/
theorem State.blockLoad_repeatIf_spec (s : State) (d : Dir) (again : Bool) :
    let v := s.busRead s.hl
    let n := v + s.cpu.a
    let t := (s.blockLoad d).repeatIf again
    StoresByte s t s.de v (if again then 21 else 16) ∧
      t.cpu = { s.cpu with
        b := t.cpu.b, c := t.cpu.c, d := t.cpu.d, e := t.cpu.e, h := t.cpu.h, l := t.cpu.l
        f := t.cpu.f, pc := if again then s.cpu.pc - 2 else s.cpu.pc } ∧
      t.hl = s.hl + d.step ∧ t.de = s.de + d.step ∧ t.bc = s.bc - 1 ∧
      t.cpu.hf = false ∧ t.cpu.nf = false ∧ t.cpu.pf = decide (s.bc - 1 ≠ 0) ∧
      t.cpu.yf = n.getLsbD 1 ∧ t.cpu.xf = n.getLsbD 3 ∧
      t.cpu.sf = s.cpu.sf ∧ t.cpu.zf = s.cpu.zf ∧ t.cpu.cf = s.cpu.cf := by
  intro v n t
  obtain ⟨hmem, hhl, hde, hbc, hcpu⟩ := s.blockLoad_spec d
  obtain ⟨khl, kde, kbc, kf⟩ := (s.blockLoad d).repeatIf_pairs_and_f again
  rw [Dir.advance_eq_add_step] at hhl hde
  have hf : (s.blockLoad d).cpu.f = ldBlockFlags s.cpu v (s.bc - 1) := rfl
  refine ⟨StoresByte.intro ?_, ?_, khl.trans hhl, kde.trans hde, kbc.trans hbc, ldBlockFlags_spec (kf.trans hf)⟩
  · calc t = _ := (s.blockLoad d).repeatIf_frame again
      _ = _ := congrArg (fun u : State => { u with cpu := t.cpu, cycles := if again then 21 else 16 }) hmem
  · have ht : t.cpu = _ := (s.blockLoad d).repeatIf_cpu again
    rw [ht, hcpu]

/-- Settles O25: the single forms are the iteration that never goes back, the repeating ones the iteration that goes back
while the counter is not 0. -/
theorem blockTransfers : Obligations.BlockTransfers := by
  intro s x hx
  simp only [List.mem_cons, List.not_mem_nil, or_false] at hx
  rcases hx with rfl | rfl | rfl | rfl
  · exact ⟨_, rfl, s.blockLoad_repeatIf_spec .up false⟩
  · exact ⟨_, rfl, s.blockLoad_repeatIf_spec .down false⟩
  · exact ⟨_, congrArg Host.Outcome.next (s.repeatLoad_blockLoad .up), s.blockLoad_repeatIf_spec .up _⟩
  · exact ⟨_, congrArg Host.Outcome.next (s.repeatLoad_blockLoad .down), s.blockLoad_repeatIf_spec .down _⟩

/-! ### Block search (R269 to R272) -/

/-- The flag byte of a block search in numbers: `r` is `A` minus the byte, `half` the borrow into bit 4 (R269). -/
theorem cpBlockFlags_eq (old : Cpu) (v : Byte) (bc : Word) :
    let r := old.a - v
    let half := decide (old.a.toNat % 16 < v.toNat % 16)
    let n := if half then r - 1 else r
    cpBlockFlags old v bc =
      packF (r.getLsbD 7) (decide (old.a = v)) (n.getLsbD 1) half (n.getLsbD 3) (decide (bc ≠ 0)) true old.cf := by
  intro r half n
  have hr : (sub8 old.a v false).r = r := sub8_r old.a v
  have hhalf : (sub8 old.a v false).h = half := rfl
  have hn : r - BitVec.setWidth 8 (BitVec.ofBool half) = n := by
    dsimp only [n]
    cases half with
    | true => rfl
    | false => exact BitVec.sub_zero r
  have hzero : decide (r = 0) = decide (old.a = v) := decide_eq_decide.2 sub_eq_zero
  simp only [cpBlockFlags, hr, hhalf, hn, hzero, bitOf]

/-- The flags of a CPU whose `F` a block search wrote (R269). -/
theorem cpBlockFlags_spec {c old : Cpu} {v : Byte} {bc : Word} (h : c.f = cpBlockFlags old v bc) :
    let r := old.a - v
    let half := decide (old.a.toNat % 16 < v.toNat % 16)
    let n := if half then r - 1 else r
    c.sf = r.getLsbD 7 ∧ c.zf = decide (old.a = v) ∧ c.hf = half ∧ c.pf = decide (bc ≠ 0) ∧ c.nf = true ∧
      c.yf = n.getLsbD 1 ∧ c.xf = n.getLsbD 3 ∧ c.cf = old.cf := by
  obtain ⟨hsf, hzf, hyf, hhf, hxf, hpf, hnf, hcf⟩ := Cpu.flags_of_packF (h.trans (cpBlockFlags_eq old v bc))
  exact ⟨hsf, hzf, hhf, hpf, hnf, hyf, hxf, hcf⟩

/-- The repeat test of `CPIR`, `CPDR` looks at the decremented counter and for a match (R270). -/
theorem State.repeatCompare_blockCompare (s : State) (d : Dir) :
    (s.blockCompare d).repeatCompare =
      (s.blockCompare d).repeatIf (decide (s.bc - 1 ≠ 0) && decide (s.cpu.a ≠ s.busRead s.hl)) := by
  obtain ⟨-, -, hbc, -⟩ := s.blockCompare_spec d
  have hf : (s.blockCompare d).cpu.f = cpBlockFlags s.cpu (s.busRead s.hl) (s.bc - 1) := rfl
  obtain ⟨-, hzf, -⟩ := cpBlockFlags_spec hf
  rw [State.repeatCompare, hbc, hzf, ← decide_not]

/-- One step of a block search, which goes back to its first byte where `again` holds (R269, R270). -/
theorem State.blockCompare_repeatIf_spec (s : State) (d : Dir) (again : Bool) :
    let v := s.busRead s.hl
    let r := s.cpu.a - v
    let half := decide (s.cpu.a.toNat % 16 < v.toNat % 16)
    let n := if half then r - 1 else r
    let t := (s.blockCompare d).repeatIf again
    CpuOnly s t (if again then 21 else 16) ∧
      t.cpu = { s.cpu with
        b := t.cpu.b, c := t.cpu.c, h := t.cpu.h, l := t.cpu.l
        f := t.cpu.f, pc := if again then s.cpu.pc - 2 else s.cpu.pc } ∧
      t.hl = s.hl + d.step ∧ t.bc = s.bc - 1 ∧
      t.cpu.sf = r.getLsbD 7 ∧ t.cpu.zf = decide (s.cpu.a = v) ∧ t.cpu.hf = half ∧
      t.cpu.pf = decide (s.bc - 1 ≠ 0) ∧ t.cpu.nf = true ∧
      t.cpu.yf = n.getLsbD 1 ∧ t.cpu.xf = n.getLsbD 3 ∧ t.cpu.cf = s.cpu.cf := by
  intro v r half n t
  obtain ⟨hmem, hhl, hbc, hcpu⟩ := s.blockCompare_spec d
  obtain ⟨khl, -, kbc, kf⟩ := (s.blockCompare d).repeatIf_pairs_and_f again
  rw [Dir.advance_eq_add_step] at hhl
  have hf : (s.blockCompare d).cpu.f = cpBlockFlags s.cpu v (s.bc - 1) := rfl
  refine ⟨CpuOnly.intro ?_, ?_, khl.trans hhl, kbc.trans hbc, cpBlockFlags_spec (kf.trans hf)⟩
  · calc t = _ := (s.blockCompare d).repeatIf_frame again
      _ = _ := congrArg (fun u : State => { u with cpu := t.cpu, cycles := if again then 21 else 16 }) hmem
  · have ht : t.cpu = _ := (s.blockCompare d).repeatIf_cpu again
    rw [ht, hcpu]

/-- Settles O26: as O25, with the iteration that goes back while the counter is not 0 and no match was found. -/
theorem blockSearches : Obligations.BlockSearches := by
  intro s x hx
  simp only [List.mem_cons, List.not_mem_nil, or_false] at hx
  rcases hx with rfl | rfl | rfl | rfl
  · exact ⟨_, rfl, s.blockCompare_repeatIf_spec .up false⟩
  · exact ⟨_, rfl, s.blockCompare_repeatIf_spec .down false⟩
  · exact ⟨_, congrArg Host.Outcome.next (s.repeatCompare_blockCompare .up), s.blockCompare_repeatIf_spec .up _⟩
  · exact ⟨_, congrArg Host.Outcome.next (s.repeatCompare_blockCompare .down), s.blockCompare_repeatIf_spec .down _⟩

end Sys2Proof.Machine

end

section
/-! PROOFS. The exchanges (O23, O24). -/

namespace Sys2Proof.Machine

/-- The high byte of `HL` is `H` (R21). -/
@[simp] theorem State.hi_hl (s : State) : hi s.hl = s.cpu.h := hi_joinBytes _ _

/-- The low byte of `HL` is `L` (R21). -/
@[simp] theorem State.lo_hl (s : State) : lo s.hl = s.cpu.l := lo_joinBytes _ _

/-- The high byte of `DE` is `D` (R21). -/
@[simp] theorem State.hi_de (s : State) : hi s.de = s.cpu.d := hi_joinBytes _ _

/-- The low byte of `DE` is `E` (R21). -/
@[simp] theorem State.lo_de (s : State) : lo s.de = s.cpu.e := lo_joinBytes _ _

/-- Settles O23: `EX DE,HL` writes each pair with the halves of the other, the other two are the named swaps. -/
theorem exchangesSwapTheirPairs : Obligations.ExchangesSwapTheirPairs := by
  intro s p
  refine ⟨rfl, rfl, rfl, ⟨_, rfl, CpuOnly.intro rfl, ?_⟩, ⟨_, rfl, CpuOnly.intro rfl, rfl⟩,
    ⟨_, rfl, CpuOnly.intro rfl, rfl⟩⟩
  show (s.cpu.setRp .de s.hl).setRp .hl s.de = _
  simp only [Cpu.setRp, s.hi_hl, s.lo_hl, s.hi_de, s.lo_de]

/-- The two writes of `EX (SP),HL` change no register (R263). -/
@[simp] theorem State.exchangeTop_cpu (s : State) (v : Word) : (s.exchangeTop v).cpu = s.cpu := by
  simp [State.exchangeTop]

/-- `EX (SP),HL`, but for the halves of `HL`: the two writes, and the word at `SP` in `HL` (R263). -/
theorem State.exchangeTop_setRp_spec (s : State) (n : Nat) :
    let t := ((s.exchangeTop s.hl).setRp .hl s.popValue).done n
    StoresTwo s t (s.cpu.sp + 1) s.cpu.h s.cpu.sp s.cpu.l n ∧
      t.cpu = { s.cpu with h := s.busRead (s.cpu.sp + 1), l := s.busRead s.cpu.sp } := by
  refine ⟨?_, ?_⟩
  · rw [← s.hi_hl, ← s.lo_hl]
    exact StoresTwo.intro rfl
  · show (s.exchangeTop s.hl).cpu.setRp .hl s.popValue = _
    rw [s.exchangeTop_cpu, Cpu.setRp, s.hi_popValue, s.lo_popValue]

/-- `EX (SP),ii`: the two writes, and the word at `SP` in the index register (R264). -/
theorem State.exchangeTop_setIi_spec (s : State) (i : Index) (n : Nat) :
    let t := ((s.exchangeTop (s.ii i)).setIi i s.popValue).done n
    StoresTwo s t (s.cpu.sp + 1) (hi (s.ii i)) s.cpu.sp (lo (s.ii i)) n ∧ t.cpu = s.cpu.setIi i s.popValue := by
  refine ⟨StoresTwo.intro rfl, ?_⟩
  show (s.exchangeTop (s.ii i)).cpu.setIi i s.popValue = _
  rw [s.exchangeTop_cpu]

/-- Settles O24: the two writes of `State.exchangeTop` and the word `Pop16()` would return, with `SP` left alone. -/
theorem stackTopExchanges : Obligations.StackTopExchanges := by
  intro s low high
  exact ⟨⟨_, rfl, s.exchangeTop_setRp_spec 19⟩, ⟨_, rfl, s.exchangeTop_setIi_spec .ix 23⟩,
    ⟨_, rfl, s.exchangeTop_setIi_spec .iy 23⟩⟩

end Sys2Proof.Machine

end

section
/-! PROOFS. `INC` and `DEC` of a byte (O31). -/

namespace Sys2Proof.Machine

/-! ### Flags of a count (R299, R302) -/

/-- `c` shows the flags of counting `v` to `w`, up or `down`, in a CPU that held the carry `cf` (R299, R302). -/
def Cpu.Counted (c : Cpu) (cf : Bool) (v w : Byte) (down : Bool) : Prop :=
  c.Shows w ∧ c.nf = down ∧ c.cf = cf ∧
    c.hf = (if down then decide (v.toNat % 16 = 0) else decide (v.toNat % 16 = 15)) ∧
    c.pf = (if down then decide (v = 0x80) else decide (v = 0x7F))

/-- `incFlags` are the flags of a count up, in any CPU that takes them. -/
theorem counted_incFlags (c : Cpu) (v : Byte) (cf : Bool) :
    ({ c with f := incFlags v (v + 1) cf } : Cpu).Counted cf v (v + 1) false := by
  obtain ⟨hshows, hhf, hpf, hnf, hcf⟩ := incFlags_spec c v cf
  exact ⟨hshows, hnf, hcf, hhf, hpf⟩

/-- `decFlags` are the flags of a count down, in any CPU that takes them. -/
theorem counted_decFlags (c : Cpu) (v : Byte) (cf : Bool) :
    ({ c with f := decFlags v (v - 1) cf } : Cpu).Counted cf v (v - 1) true := by
  obtain ⟨hshows, hhf, hpf, hnf, hcf⟩ := decFlags_spec c v cf
  exact ⟨hshows, hnf, hcf, hhf, hpf⟩

/-! ### A write with its flags: what it leaves unchanged -/

/-- A register and the flags written, nothing else (R13). -/
theorem State.setReg_setF_frame (s : State) (r : Reg8) (w f : Byte) (n : Nat) :
    let t := ((s.setReg r w).setF f).done n
    CpuOnly s t n ∧ s.cpu.OnlyRegAndFlags t.cpu r w :=
  ⟨CpuOnly.intro rfl, Cpu.onlyRegAndFlags_setReg s.cpu r w f⟩

/-- The index register `i` with its half `h` replaced by `v` (R161). -/
def State.withHalf (s : State) (i : Index) (h : Half) (v : Byte) : Word :=
  match h with
  | .hi => v ++ lo (s.ii i)
  | .lo => hi (s.ii i) ++ v

/-- Writing a half writes the index register with the other half kept (R305). -/
theorem State.setHalf_eq_setIi (s : State) (i : Index) (h : Half) (v : Byte) :
    s.setHalf i h v = s.setIi i (s.withHalf i h v) := by
  cases h <;> rfl

/-- An index half and the flags written, nothing else: the other half stays (R305). -/
theorem State.setHalf_setF_frame (s : State) (i : Index) (h : Half) (w f : Byte) (n : Nat) :
    let t := ((s.setHalf i h w).setF f).done n
    CpuOnly s t n ∧ s.cpu.OnlyIndexAndFlags t.cpu i (s.withHalf i h w) := by
  rw [s.setHalf_eq_setIi]
  exact ⟨CpuOnly.intro rfl, Cpu.onlyIndexAndFlags_setIi s.cpu i _ f⟩

/-- A memory byte and the flags written, nothing else (R109). -/
theorem State.busWrite_setF_frame (s : State) (a : Word) (w f : Byte) (n : Nat) :
    let t := ((s.busWrite a w).setF f).done n
    StoresByte s t a w n ∧ t.cpu = { s.cpu with f := f } := by
  refine ⟨StoresByte.intro rfl, ?_⟩
  show { (s.busWrite a w).cpu with f := f } = _
  rw [s.busWrite_cpu]

/-! ### The counts of each operand (R299 to R305) -/

/-- `INC r` (R299). -/
theorem State.incReg_spec (s : State) (r : Reg8) (n : Nat) :
    let t := (s.incReg r).done n
    CpuOnly s t n ∧ s.cpu.OnlyRegAndFlags t.cpu r (s.reg r + 1) ∧
      t.cpu.Counted s.cpu.cf (s.reg r) (s.reg r + 1) false := by
  obtain ⟨hframe, hreg⟩ := s.setReg_setF_frame r (s.reg r + 1) (incFlags (s.reg r) (s.reg r + 1) s.cpu.cf) n
  exact ⟨hframe, hreg, counted_incFlags (s.cpu.setReg r _) (s.reg r) s.cpu.cf⟩

/-- `DEC r` (R302). -/
theorem State.decReg_spec (s : State) (r : Reg8) (n : Nat) :
    let t := (s.decReg r).done n
    CpuOnly s t n ∧ s.cpu.OnlyRegAndFlags t.cpu r (s.reg r - 1) ∧
      t.cpu.Counted s.cpu.cf (s.reg r) (s.reg r - 1) true := by
  obtain ⟨hframe, hreg⟩ := s.setReg_setF_frame r (s.reg r - 1) (decFlags (s.reg r) (s.reg r - 1) s.cpu.cf) n
  exact ⟨hframe, hreg, counted_decFlags (s.cpu.setReg r _) (s.reg r) s.cpu.cf⟩

/-- `INC` of an index half (R305). -/
theorem State.incHalf_spec (s : State) (i : Index) (h : Half) (n : Nat) :
    let t := (s.incHalf i h).done n
    CpuOnly s t n ∧ s.cpu.OnlyIndexAndFlags t.cpu i (s.withHalf i h (s.half i h + 1)) ∧
      t.cpu.Counted s.cpu.cf (s.half i h) (s.half i h + 1) false := by
  obtain ⟨hframe, hindex⟩ :=
    s.setHalf_setF_frame i h (s.half i h + 1) (incFlags (s.half i h) (s.half i h + 1) s.cpu.cf) n
  exact ⟨hframe, hindex, counted_incFlags (s.setHalf i h _).cpu (s.half i h) s.cpu.cf⟩

/-- `DEC` of an index half, its operand spelt as O31 spells it (R305). -/
theorem State.decHalf_spec (s : State) (i : Index) (h : Half) (n : Nat) :
    let t := (s.decHalf i h).done n
    CpuOnly s t n ∧ s.cpu.OnlyIndexAndFlags t.cpu i (s.withHalf i h (s.half i h + -1)) ∧
      t.cpu.Counted s.cpu.cf (s.half i h) (s.half i h + -1) true := by
  obtain ⟨hframe, hindex⟩ :=
    s.setHalf_setF_frame i h (s.half i h - 1) (decFlags (s.half i h) (s.half i h - 1) s.cpu.cf) n
  rw [← sub_eq_add_neg]
  exact ⟨hframe, hindex, counted_decFlags (s.setHalf i h _).cpu (s.half i h) s.cpu.cf⟩

/-- `INC` of a memory byte (R300, R301). -/
theorem State.incMem_spec (s : State) (a : Word) (n : Nat) :
    let t := (s.incMem a).done n
    StoresByte s t a (s.busRead a + 1) n ∧ t.cpu = { s.cpu with f := t.cpu.f } ∧
      t.cpu.Counted s.cpu.cf (s.busRead a) (s.busRead a + 1) false := by
  obtain ⟨hstore, hcpu⟩ :=
    s.busWrite_setF_frame a (s.busRead a + 1) (incFlags (s.busRead a) (s.busRead a + 1) s.cpu.cf) n
  refine ⟨hstore, ?_⟩
  rw [State.incMem, hcpu]
  exact ⟨rfl, counted_incFlags s.cpu (s.busRead a) s.cpu.cf⟩

/-- `DEC` of a memory byte, spelt as O31 spells it (R303, R304). -/
theorem State.decMem_spec (s : State) (a : Word) (n : Nat) :
    let t := (s.decMem a).done n
    StoresByte s t a (s.busRead a + -1) n ∧ t.cpu = { s.cpu with f := t.cpu.f } ∧
      t.cpu.Counted s.cpu.cf (s.busRead a) (s.busRead a + -1) true := by
  obtain ⟨hstore, hcpu⟩ :=
    s.busWrite_setF_frame a (s.busRead a - 1) (decFlags (s.busRead a) (s.busRead a - 1) s.cpu.cf) n
  rw [← sub_eq_add_neg]
  refine ⟨hstore, ?_⟩
  rw [State.decMem, hcpu]
  exact ⟨rfl, counted_decFlags s.cpu (s.busRead a) s.cpu.cf⟩

/-- Settles O31: each instruction is the count of its operand, in a register, in a half or in memory. -/
theorem byteIncrementsAndDecrements : Obligations.ByteIncrementsAndDecrements := by
  intro s p r d counted
  refine ⟨fun x hx => ?_, fun x hx => ?_, fun x hx => ?_, fun x hx => ?_⟩ <;>
    simp only [List.mem_cons, List.not_mem_nil, or_false] at hx
  · rcases hx with rfl | rfl
    · exact ⟨_, rfl, s.incReg_spec r _⟩
    · exact ⟨_, rfl, s.decReg_spec r _⟩
  · rcases hx with rfl | rfl | rfl | rfl
    · exact ⟨_, rfl, s.incHalf_spec .ix .hi 8⟩
    · exact ⟨_, rfl, s.incHalf_spec .iy .hi 8⟩
    · exact ⟨_, rfl, s.decHalf_spec .ix .hi 8⟩
    · exact ⟨_, rfl, s.decHalf_spec .iy .hi 8⟩
  · rcases hx with rfl | rfl | rfl | rfl
    · exact ⟨_, rfl, s.incHalf_spec .ix .lo 8⟩
    · exact ⟨_, rfl, s.incHalf_spec .iy .lo 8⟩
    · exact ⟨_, rfl, s.decHalf_spec .ix .lo 8⟩
    · exact ⟨_, rfl, s.decHalf_spec .iy .lo 8⟩
  · rcases hx with rfl | rfl | rfl | rfl | rfl | rfl
    · exact ⟨_, rfl, s.incMem_spec s.hl 11⟩
    · exact ⟨_, rfl, s.incMem_spec (s.idxAddr .ix d) 23⟩
    · exact ⟨_, rfl, s.incMem_spec (s.idxAddr .iy d) 23⟩
    · exact ⟨_, rfl, s.decMem_spec s.hl 11⟩
    · exact ⟨_, rfl, s.decMem_spec (s.idxAddr .ix d) 23⟩
    · exact ⟨_, rfl, s.decMem_spec (s.idxAddr .iy d) 23⟩

end Sys2Proof.Machine

end

section
/-! PROOFS. Decimal adjustment after an addition of packed BCD numbers (O35). -/

namespace Sys2Proof.Machine

/-! ### Packed BCD in numbers (R327)

`a` and `v` are the packed digits of `x` and `y`, and `c` is the carry that comes in. -/

section

variable {a v c x y : Nat} (hc : c ≤ 1) (ha : a = 16 * (x / 10) + x % 10) (hv : v = 16 * (y / 10) + y % 10)

include hc ha hv

/-- The low digit of the binary sum needs its correction where the units carry. -/
theorem bcd_units_carry_iff :
    (15 < a % 16 + v % 16 + c ∨ 9 < (a + v + c) % 256 % 16) ↔ 10 ≤ x % 10 + y % 10 + c := by
  omega

variable (hx : x < 100) (hy : y < 100)

include hx hy

/-- The high digit of the binary sum needs its correction where the decimal sum reaches a hundred: units that carry
into nine tens bring the binary sum above 0x99 as well. -/
theorem bcd_hundred_iff : (255 < a + v + c ∨ 0x99 < (a + v + c) % 256) ↔ 100 ≤ x + y + c := by
  omega

/-- The binary sum, corrected by 6 for a carry of the units and by 0x60 for a hundred, is the packed sum. -/
theorem bcd_corrected_sum :
    ((a + v + c) % 256 + ((if 10 ≤ x % 10 + y % 10 + c then 6 else 0) + if 100 ≤ x + y + c then 0x60 else 0)) % 256 =
      16 * ((x + y + c) % 100 / 10) + (x + y + c) % 10 := by
  split_ifs <;> omega

end

/-! ### `DAA` after the addition -/

/-- `DAA` after a sum of packed BCD numbers with the carry `c` (R291, R292, R327). -/
theorem State.daa_after_add (s : State) (v : Byte) (c : Bool) (n x y : Nat) (hx : x < 100) (hy : y < 100)
    (ha : s.cpu.a.toNat = 16 * (x / 10) + x % 10) (hv : v.toNat = 16 * (y / 10) + y % 10) :
    let t := ((s.setReg .a (add8 s.cpu.a v c).r).setF (addFlags (add8 s.cpu.a v c))).done n
    ∃ u, exec (.daa .none) t = .next u ∧
      u.cpu.a.toNat = 16 * ((x + y + c.toNat) % 100 / 10) + (x + y + c.toNat) % 10 ∧
      u.cpu.cf = decide (100 ≤ x + y + c.toNat) := by
  intro t
  have hc : c.toNat ≤ 1 := c.toNat_le
  obtain ⟨-, ⟨-, hreg⟩, -, hhf, -, (hnf : t.cpu.nf = false), hcf⟩ := s.add_spec v c n
  have hsum : t.cpu.a.toNat = (s.cpu.a.toNat + v.toNat + c.toNat) % 256 :=
    (congrArg BitVec.toNat (hreg .a)).trans (BitVec.toNat_ofNat ..)
  obtain ⟨u, hu, -, ⟨-, hadjusted⟩, -, -, -, hcarry, -⟩ := decimalAdjust t .none
  have hlow : (t.cpu.hf = true ∨ 9 < t.cpu.a.toNat % 16) ↔ 10 ≤ x % 10 + y % 10 + c.toNat := by
    rw [hhf, decide_eq_true_iff, hsum]
    exact bcd_units_carry_iff hc ha hv
  have hhigh : (t.cpu.cf = true ∨ 0x99 < t.cpu.a.toNat) ↔ 100 ≤ x + y + c.toNat := by
    rw [hcf, decide_eq_true_iff, hsum]
    exact bcd_hundred_iff hc ha hv hx hy
  have hresult : u.cpu.a.toNat = _ := congrArg BitVec.toNat (hadjusted .a)
  refine ⟨u, hu, ?_, hcarry.trans (decide_eq_decide.2 hhigh)⟩
  rw [hresult, ← bcd_corrected_sum hc ha hv hx hy, ← hsum]
  simp only [hlow, hhigh, hnf, if_true, Bool.false_eq_true, if_false, BitVec.toNat_ofInt]
  split_ifs <;> omega

/-- Settles O35: `ADD` is the sum without, `ADC` the sum with the old carry, each adjusted by `State.daa_after_add`. -/
theorem decimalAdjustGivesBcdSums : Obligations.DecimalAdjustGivesBcdSums := by
  intro s r x y hx hy ha hv i hi
  rcases List.mem_pair.1 hi with rfl | rfl
  · exact ⟨_, (s.daa_after_add (s.reg r) false 4 x y hx hy ha hv).imp fun _ h => ⟨rfl, h⟩⟩
  · exact ⟨_, (s.daa_after_add (s.reg r) s.cpu.cf 4 x y hx hy ha hv).imp fun _ h => ⟨rfl, h⟩⟩

end Sys2Proof.Machine

end

section
/-! PROOFS. The halted step (O3). -/

namespace Sys2Proof.Machine

/-- Settles O3: of the two CPU steps that R320 and R321 tell apart, a halted CPU takes the one without a fetch. -/
theorem haltedStepOnlyAdvancesRefresh : Obligations.HaltedStepOnlyAdvancesRefresh := by
  intro s hhalted
  exact (s.cpuStep_next_iff s.haltedStep).2 (.inl ⟨hhalted, rfl⟩)

end Sys2Proof.Machine

end

section
/-! PROOFS. `SCF`, `CCF` and `CPL` (O36). -/

namespace Sys2Proof.Machine

/-- A flag byte packed with the `SF`, `ZF` and `PF` of `old` keeps those three, whatever the other five are. -/
theorem keepsSZP_of_packF {c old : Cpu} {yf hf xf nf cf : Bool}
    (h : c.f = packF old.sf old.zf yf hf xf old.pf nf cf) :
    c.cf = cf ∧ c.hf = hf ∧ c.nf = nf ∧ c.yf = yf ∧ c.xf = xf ∧ old.KeepsSZP c := by
  obtain ⟨hsf, hzf, hyf, hhf, hxf, hpf, hnf, hcf⟩ := Cpu.flags_of_packF h
  exact ⟨hcf, hhf, hnf, hyf, hxf, hsf, hzf, hpf⟩

/-- Only the flags written (R26). -/
theorem State.setF_frame (s : State) (f : Byte) (n : Nat) :
    let t := (s.setF f).done n
    CpuOnly s t n ∧ t.cpu = { s.cpu with f := t.cpu.f } :=
  ⟨CpuOnly.intro rfl, rfl⟩

/-- `SCF` sets the carry (R325). -/
theorem State.scf_spec (s : State) (n : Nat) :
    let t := (s.setF (scfFlags s.cpu)).done n
    CpuOnly s t n ∧ t.cpu = { s.cpu with f := t.cpu.f } ∧
      t.cpu.cf = true ∧ t.cpu.hf = false ∧ t.cpu.nf = false ∧ t.cpu.yf = s.cpu.a.getLsbD 5 ∧
      t.cpu.xf = s.cpu.a.getLsbD 3 ∧ s.cpu.KeepsSZP t.cpu := by
  obtain ⟨hframe, hcpu⟩ := s.setF_frame (scfFlags s.cpu) n
  exact ⟨hframe, hcpu, keepsSZP_of_packF rfl⟩

/-- `CCF` inverts the carry and moves the old one to `HF` (R326). -/
theorem State.ccf_spec (s : State) (n : Nat) :
    let t := (s.setF (ccfFlags s.cpu)).done n
    CpuOnly s t n ∧ t.cpu = { s.cpu with f := t.cpu.f } ∧
      t.cpu.cf = (!s.cpu.cf) ∧ t.cpu.hf = s.cpu.cf ∧ t.cpu.nf = false ∧ t.cpu.yf = s.cpu.a.getLsbD 5 ∧
      t.cpu.xf = s.cpu.a.getLsbD 3 ∧ s.cpu.KeepsSZP t.cpu := by
  obtain ⟨hframe, hcpu⟩ := s.setF_frame (ccfFlags s.cpu) n
  exact ⟨hframe, hcpu, keepsSZP_of_packF rfl⟩

/-- `CPL` complements `A` and takes `YF` and `XF` from the new `A`, so they are the opposite of the old bits (R328). -/
theorem State.cpl_spec (s : State) (n : Nat) :
    let t := ((s.setReg .a (s.cpu.a ^^^ 0xFF)).setF (cplFlags s.cpu (s.cpu.a ^^^ 0xFF))).done n
    CpuOnly s t n ∧ s.cpu.OnlyRegAndFlags t.cpu .a (~~~s.cpu.a) ∧
      t.cpu.hf = true ∧ t.cpu.nf = true ∧ t.cpu.yf = (!s.cpu.a.getLsbD 5) ∧ t.cpu.xf = (!s.cpu.a.getLsbD 3) ∧
      t.cpu.cf = s.cpu.cf ∧ s.cpu.KeepsSZP t.cpu := by
  have hnot : s.cpu.a ^^^ 0xFF = ~~~s.cpu.a := BitVec.xor_allOnes
  rw [hnot]
  intro t
  obtain ⟨hframe, hreg⟩ := s.setReg_setF_frame .a (~~~s.cpu.a) (cplFlags s.cpu (~~~s.cpu.a)) n
  have hf : t.cpu.f = cplFlags s.cpu (~~~s.cpu.a) := rfl
  obtain ⟨hcf, hhf, hnf, hyf, hxf, hkept⟩ := keepsSZP_of_packF hf
  have hbit5 : bitOf (~~~s.cpu.a) 5 = !s.cpu.a.getLsbD 5 := BitVec.getLsbD_not
  have hbit3 : bitOf (~~~s.cpu.a) 3 = !s.cpu.a.getLsbD 3 := BitVec.getLsbD_not
  exact ⟨hframe, hreg, hhf, hnf, hyf.trans hbit5, hxf.trans hbit3, hcf, hkept⟩

/-- Settles O36: each instruction is its write of the flags, `CPL` with the complement in `A`, at 4 cycles and those of
a prefix. -/
theorem carryAndComplementInstructions : Obligations.CarryAndComplementInstructions := fun s p =>
  ⟨⟨_, rfl, s.scf_spec (4 + p.extra)⟩, ⟨_, rfl, s.ccf_spec (4 + p.extra)⟩, ⟨_, rfl, s.cpl_spec (4 + p.extra)⟩⟩

end Sys2Proof.Machine

end

section
/-! PROOFS. The rotates of the accumulator (O39) and of the digits (O41). -/

namespace Sys2Proof.Machine

/-! ### `RLCA`, `RRCA`, `RLA`, `RRA` (R370 to R373) -/

/-- A rotate of `A` with result `w` that shifts out `out`: unlike `ROT[y] r` it keeps `SF`, `ZF` and `PF` (R370). -/
theorem State.rotateAcc_spec (s : State) (op : Rot) (n : Nat) (w : Byte) (out : Bool)
    (h : rotate op s.cpu.a s.cpu.cf = (w, out)) :
    let t := (s.rotateAcc op).done n
    CpuOnly s t n ∧ s.cpu.OnlyRegAndFlags t.cpu .a w ∧ t.cpu.cf = out ∧ t.cpu.hf = false ∧ t.cpu.nf = false ∧
      t.cpu.yf = w.getLsbD 5 ∧ t.cpu.xf = w.getLsbD 3 ∧ s.cpu.KeepsSZP t.cpu := by
  have hwrites : s.rotateAcc op = (s.setReg .a w).setF (accRotFlags s.cpu w out) := by
    simp only [State.rotateAcc, h]
  rw [hwrites]
  obtain ⟨hframe, hreg⟩ := s.setReg_setF_frame .a w (accRotFlags s.cpu w out) n
  exact ⟨hframe, hreg, keepsSZP_of_packF rfl⟩

/-- Settles O39: each instruction is its rotate of `A` by `State.rotateAcc_spec`, in the numbers of `rotate_eq`. -/
theorem accumulatorRotates : Obligations.AccumulatorRotates := by
  intro s p a c x hx
  simp only [List.mem_cons, List.not_mem_nil, or_false] at hx
  rcases hx with rfl | rfl | rfl | rfl
  · exact ⟨_, rfl, s.rotateAcc_spec .rlc _ _ _ (rotate_eq .rlc _ _)⟩
  · exact ⟨_, rfl, s.rotateAcc_spec .rrc _ _ _ (rotate_eq .rrc _ _)⟩
  · exact ⟨_, rfl, s.rotateAcc_spec .rl _ _ _ (rotate_eq .rl _ _)⟩
  · exact ⟨_, rfl, s.rotateAcc_spec .rr _ _ _ (rotate_eq .rr _ _)⟩

/-! ### Nibbles in numbers -/

/-- The low nibble, `v[3:0]`. -/
theorem toNat_and_lowNibble (v : Byte) : (v &&& 0x0F).toNat = v.toNat % 16 :=
  (BitVec.toNat_and v 0x0F).trans (Nat.and_two_pow_sub_one_eq_mod v.toNat 4)

/-- The high nibble in its place, `v[7:4] * 16`. -/
theorem toNat_and_highNibble (v : Byte) : (v &&& 0xF0).toNat = v.toNat / 16 * 16 := by
  revert v
  decide

/-- The high nibble moved down, `v[7:4]`. -/
theorem toNat_shiftRight_nibble (v : Byte) : (v >>> 4).toNat = v.toNat / 16 :=
  (BitVec.toNat_ushiftRight v 4).trans (Nat.shiftRight_eq_div_pow v.toNat 4)

/-- The low nibble moved up, `v * 16` modulo 256. -/
theorem toNat_shiftLeft_nibble (v : Byte) : (v <<< 4).toNat = v.toNat * 16 % 256 := by
  rw [BitVec.toNat_shiftLeft, Nat.shiftLeft_eq]

/-- A sum of bytes is the byte of the sum of their numbers. -/
theorem byte_add_eq_ofNat {x y : Byte} {m n : Nat} (hx : x.toNat = m) (hy : y.toNat = n) :
    x + y = BitVec.ofNat 8 (m + n) := by
  subst hx hy
  exact BitVec.eq_of_toNat_eq (by rw [BitVec.toNat_add, BitVec.toNat_ofNat])

/-! ### `RLD` and `RRD` (R383, R384) -/

/-- The flags of `RLD` and `RRD` (R383), in any CPU that takes them: those of the new `A`, `CF` as given. -/
theorem digitFlags_spec (c : Cpu) (w : Byte) (cf : Bool) :
    let d : Cpu := { c with f := digitFlags w cf }
    d.Shows w ∧ d.hf = false ∧ d.pf = evenOnes w ∧ d.nf = false ∧ d.cf = cf :=
  rotFlags_spec c w cf

/-- A byte `v` stored, `w` put in `A` and its flags: what `RLD` and `RRD` have in common. -/
theorem State.storeDigits_spec (s : State) (addr : Word) (v w : Byte) (n : Nat) :
    let t := (((s.busWrite addr v).setReg .a w).setF (digitFlags w s.cpu.cf)).done n
    StoresByte s t addr v n ∧ s.cpu.OnlyRegAndFlags t.cpu .a w ∧ t.cpu.Shows w ∧ t.cpu.hf = false ∧
      t.cpu.pf = evenOnes w ∧ t.cpu.nf = false ∧ t.cpu.cf = s.cpu.cf := by
  intro t
  have hcpu : t.cpu = { s.cpu.setReg .a w with f := digitFlags w s.cpu.cf } := by
    show { (s.busWrite addr v).cpu.setReg .a w with f := digitFlags w s.cpu.cf } = _
    rw [s.busWrite_cpu]
  refine ⟨StoresByte.intro rfl, ?_⟩
  rw [hcpu]
  exact ⟨Cpu.onlyRegAndFlags_setReg s.cpu .a w _, digitFlags_spec (s.cpu.setReg .a w) w s.cpu.cf⟩

/-- `RLD` in numbers: the high nibble of the memory byte goes to `A`, its low nibble up, that of `A` below it. -/
theorem State.rotateDigitLeft_eq (s : State) :
    let a := s.cpu.a.toNat
    let m := (s.busRead s.hl).toNat
    let w : Byte := BitVec.ofNat 8 (a / 16 * 16 + m / 16)
    s.rotateDigitLeft =
      ((s.busWrite s.hl (BitVec.ofNat 8 (m * 16 % 256 + a % 16))).setReg .a w).setF (digitFlags w s.cpu.cf) := by
  intro a m w
  have hw : (s.cpu.a &&& 0xF0) + (s.busRead s.hl >>> 4) = w :=
    byte_add_eq_ofNat (toNat_and_highNibble _) (toNat_shiftRight_nibble _)
  have hv : (s.busRead s.hl <<< 4) + (s.cpu.a &&& 0x0F) = BitVec.ofNat 8 (m * 16 % 256 + a % 16) :=
    byte_add_eq_ofNat (toNat_shiftLeft_nibble _) (toNat_and_lowNibble _)
  rw [← hw, ← hv, State.rotateDigitLeft]

/-- `RRD` in numbers: the low nibble of the memory byte goes to `A`, its high nibble down, that of `A` above it. -/
theorem State.rotateDigitRight_eq (s : State) :
    let a := s.cpu.a.toNat
    let m := (s.busRead s.hl).toNat
    let w : Byte := BitVec.ofNat 8 (a / 16 * 16 + m % 16)
    s.rotateDigitRight =
      ((s.busWrite s.hl (BitVec.ofNat 8 (a % 16 * 16 + m / 16))).setReg .a w).setF (digitFlags w s.cpu.cf) := by
  intro a m w
  have hw : (s.cpu.a &&& 0xF0) + (s.busRead s.hl &&& 0x0F) = w :=
    byte_add_eq_ofNat (toNat_and_highNibble _) (toNat_and_lowNibble _)
  have hup : (s.cpu.a <<< 4).toNat = a % 16 * 16 :=
    (toNat_shiftLeft_nibble s.cpu.a).trans (Nat.mul_mod_mul_right 16 a 16)
  have hv : (s.cpu.a <<< 4) + (s.busRead s.hl >>> 4) = BitVec.ofNat 8 (a % 16 * 16 + m / 16) :=
    byte_add_eq_ofNat hup (toNat_shiftRight_nibble _)
  rw [← hw, ← hv, State.rotateDigitRight]

/-- `RLD` turns the digits left, at 18 cycles (R383). -/
theorem exec_rld (s : State) : exec .rld s = .next (s.rotateDigitLeft.done 18) := rfl

/-- `RRD` turns the digits right, at 18 cycles (R384). -/
theorem exec_rrd (s : State) : exec .rrd s = .next (s.rotateDigitRight.done 18) := rfl

/-- Settles O41: each instruction is one store and one write of `A` in numbers, by `State.storeDigits_spec`. -/
theorem digitRotates : Obligations.DigitRotates := by
  intro s a m x hx
  rcases List.mem_pair.1 hx with rfl | rfl
  · exact ⟨_, by rw [exec_rld, s.rotateDigitLeft_eq], s.storeDigits_spec s.hl _ _ 18⟩
  · exact ⟨_, by rw [exec_rrd, s.rotateDigitRight_eq], s.storeDigits_spec s.hl _ _ 18⟩

end Sys2Proof.Machine

end

section
/-! PROOFS. Jumps (O44), calls and restarts (O45), returns (O46). -/

namespace Sys2Proof.Machine

/-! ### Jumps (R420 to R426) -/

/-- `PC <- w`, and nothing else changes. -/
theorem State.setPc_spec (s : State) (w : Word) (n : Nat) :
    let t := (s.setPc w).done n
    CpuOnly s t n ∧ t.cpu = { s.cpu with pc := w } :=
  ⟨CpuOnly.intro rfl, rfl⟩

/-- `JR cc` gives `PC` one of two values, at the cost of its branch (R423). -/
theorem exec_jrCcE_eq (p : Pass) (cc : JrCond) (e : Byte) (s : State) :
    exec (.jrCcE p cc e) s =
      .next ((s.setPc (if s.holds cc.cond then s.cpu.pc + sext8 e else s.cpu.pc)).done
        (if s.holds cc.cond then 12 + p.extra else 7 + p.extra)) := by
  show execJrCcE p cc e s = _
  unfold execJrCcE
  split <;> rfl

/-- `DJNZ` counts `B` down and falls through where the old `B` was 1, the one value that counts down to 0 (R426). -/
theorem exec_djnz_eq (p : Pass) (e : Byte) (s : State) :
    exec (.djnz p e) s =
      .next (((s.setReg .b (s.cpu.b - 1)).setPc (if s.cpu.b = 1 then s.cpu.pc else s.cpu.pc + sext8 e)).done
        (if s.cpu.b = 1 then 8 + p.extra else 13 + p.extra)) := by
  show execDjnz p e s = _
  unfold execDjnz
  by_cases hb : s.cpu.b = 1
  · rw [if_neg (not_not_intro (sub_eq_zero.2 hb)), if_pos hb, if_pos hb]
    rfl
  · rw [if_pos (sub_ne_zero.2 hb), if_neg hb, if_neg hb]

/-- Settles O44: each jump is one write of `PC` by `State.setPc_spec`; a conditional one writes back the old `PC` where
it falls through, and `DJNZ` writes after its count of `B`. -/
theorem jumpsChangeOnlyThePc : Obligations.JumpsChangeOnlyThePc := by
  intro s p cc jc nn e target j
  have htarget : s.cpu.pc + sext8 e = target := (pc_add_sext8 s.cpu.pc e).symm
  refine ⟨fun x hx => ?_, ?_⟩
  · simp only [List.mem_cons, List.not_mem_nil, or_false] at hx
    rcases hx with rfl | rfl | rfl | rfl | rfl | rfl | rfl
    · exact ⟨_, rfl, s.setPc_spec nn _⟩
    · exact ⟨_, by rw [exec_jpCcNn_eq, ← s.meets_eq_holds], s.setPc_spec _ _⟩
    · exact ⟨_, htarget ▸ rfl, s.setPc_spec target _⟩
    · exact ⟨_, by rw [exec_jrCcE_eq, ← s.meets_eq_holds, htarget], s.setPc_spec _ _⟩
    · exact ⟨_, rfl, s.setPc_spec s.hl 4⟩
    · exact ⟨_, rfl, s.setPc_spec s.cpu.ix 8⟩
    · exact ⟨_, rfl, s.setPc_spec s.cpu.iy 8⟩
  · exact ⟨_, by rw [exec_djnz_eq, htarget], CpuOnly.intro rfl, rfl⟩

/-! ### Calls and restarts (R430, R431, R436) -/

/-- A write of the CPU after two bus writes keeps them. -/
theorem StoresTwo.withCpuAfter {s t : State} {a1 a2 : Word} {v1 v2 : Byte} {n : Nat} (h : StoresTwo s t a1 v1 a2 v2 n)
    (c : Cpu) : StoresTwo s { t with cpu := c } a1 v1 a2 v2 n := by
  obtain ⟨hstate, -⟩ := h
  refine StoresTwo.intro ?_
  rw [hstate]

/-- `Push16(PC)`, then `PC <- w`: what a call or a restart that is taken does. -/
theorem State.pushPc_setPc_spec (s : State) (w : Word) (n : Nat) :
    let t := ((s.push16 s.cpu.pc).setPc w).done n
    StoresTwo s t (s.cpu.sp - 1) (hi s.cpu.pc) (s.cpu.sp - 2) (lo s.cpu.pc) n ∧
      t.cpu = { s.cpu with sp := s.cpu.sp - 2, pc := w } := by
  intro t
  have hcpu : t.cpu = { (s.push16 s.cpu.pc).cpu with pc := w } := rfl
  rw [s.push16_cpu] at hcpu
  exact ⟨(s.push16_storesTwo s.cpu.pc n).withCpuAfter t.cpu, hcpu⟩

/-- `CALL cc` where `cc` holds is `CALL` (R431). -/
theorem exec_callCcNn_of_holds (p : Pass) {cc : Cond} (nn : Word) {s : State} (h : s.holds cc = true) :
    exec (.callCcNn p cc nn) s = exec (.callNn p nn) s := if_pos h

/-- `CALL cc` where `cc` fails only takes its 10 cycles (R431). -/
theorem exec_callCcNn_of_not_holds (p : Pass) {cc : Cond} (nn : Word) {s : State} (h : s.holds cc = false) :
    exec (.callCcNn p cc nn) s = .next (s.done (10 + p.extra)) := if_neg (Bool.eq_false_iff.1 h)

/-- Settles O45: a call that is taken and a restart push `PC` and jump, by `State.pushPc_setPc_spec`. -/
theorem callsPushThePc : Obligations.CallsPushThePc := by
  intro s p cc nn y
  refine ⟨fun x hx => ?_, fun hfails => exec_callCcNn_of_not_holds p nn (s.meets_eq_holds cc ▸ hfails)⟩
  rcases List.mem_append.1 hx with hx | hx
  · rcases List.mem_pair.1 hx with rfl | rfl
    · exact ⟨_, rfl, s.pushPc_setPc_spec nn _⟩
    · exact ⟨_, rfl, s.pushPc_setPc_spec _ _⟩
  · obtain ⟨hmeets, hx⟩ := List.mem_ite_nil_right.1 hx
    obtain rfl := List.mem_singleton.1 hx
    exact ⟨_, exec_callCcNn_of_holds p nn (s.meets_eq_holds cc ▸ hmeets), s.pushPc_setPc_spec nn _⟩

/-! ### Returns (R432 to R435) -/

/-- `PC <- Pop16()`, and nothing else changes. -/
theorem State.popped_setPc_spec (s : State) (n : Nat) :
    let t := (s.popped.setPc s.popValue).done n
    CpuOnly s t n ∧
      t.cpu = { s.cpu with pc := s.busRead (s.cpu.sp + 1) ++ s.busRead s.cpu.sp, sp := s.cpu.sp + 2 } :=
  ⟨CpuOnly.intro rfl, rfl⟩

/-- `RETI` and `RETN` also put `IFF2` in `IFF1`. -/
theorem State.returnFromInterrupt_spec (s : State) (n : Nat) :
    let t := s.returnFromInterrupt.done n
    CpuOnly s t n ∧
      t.cpu = { s.cpu with
        pc := s.busRead (s.cpu.sp + 1) ++ s.busRead s.cpu.sp, sp := s.cpu.sp + 2, iff1 := s.cpu.iff2 } := by
  rw [s.returnFromInterrupt_eq]
  exact ⟨CpuOnly.intro rfl, rfl⟩

/-- Settles O46: `RET` and a `RET cc` that is taken pop `PC`, `RETI` and `RETN` also copy `IFF2`; a `RET cc` that is not
taken only costs its cycles. -/
theorem returnsPopThePc : Obligations.ReturnsPopThePc := by
  intro s p cc y back x hx
  simp only [List.mem_cons, List.not_mem_nil, or_false] at hx
  rcases hx with rfl | rfl | rfl | rfl
  · exact ⟨_, rfl, s.popped_setPc_spec _⟩
  · exact ⟨_, rfl, s.returnFromInterrupt_spec 14⟩
  · exact ⟨_, rfl, s.returnFromInterrupt_spec 14⟩
  · cases hmeets : s.cpu.meets cc with
    | true => exact ⟨_, if_pos (s.meets_eq_holds cc ▸ hmeets), s.popped_setPc_spec _⟩
    | false => exact ⟨_, if_neg (Bool.eq_false_iff.1 (s.meets_eq_holds cc ▸ hmeets)), CpuOnly.intro rfl, rfl⟩

end Sys2Proof.Machine

end

section
/-! PROOFS. Block input and output (O48). -/

namespace Sys2Proof.Machine

/-- The number that `Dir.advanceByte` adds: what `INI` and `IND` add to `C` for the flags (R456, R458). -/
def Dir.stepByte (d : Dir) : Byte :=
  match d with
  | .up => 1 | .down => -1

theorem Dir.advanceByte_eq_add_stepByte (d : Dir) (v : Byte) : d.advanceByte v = v + d.stepByte := by
  cases d with
  | up => rfl
  | down => exact sub_eq_add_neg v 1

/-- The CPU `d` is the CPU `c` after one step of a block input or output that moved the byte `v` and `HL` to `w`: `B`
counted down, the flags of the number `k`, and `PC` back at the instruction where `again` holds (R456, R457). -/
def Cpu.AfterBlockIo (c d : Cpu) (v : Byte) (k : Nat) (again : Bool) (w : Word) : Prop :=
  let bn := c.b - 1
  d = { c with b := bn, h := hi w, l := lo w, f := d.f, pc := if again then c.pc - 2 else c.pc } ∧
    d.Shows bn ∧ d.nf = v.getLsbD 7 ∧ d.hf = decide (255 < k) ∧ d.cf = decide (255 < k) ∧
    d.pf = evenOnes (BitVec.ofNat 8 (k % 8) ^^^ bn)

/-- An iteration that leaves `B`, `HL` and `F` so, and then goes back or on. -/
theorem State.repeatIf_afterBlockIo {t : State} {c : Cpu} {v : Byte} {k : Nat} {w : Word} (again : Bool)
    (h : t.cpu = { c with b := c.b - 1, h := hi w, l := lo w, f := ioBlockFlags v (c.b - 1) k }) :
    c.AfterBlockIo (t.repeatIf again).cpu v k again w := by
  rw [t.repeatIf_cpu again, h]
  obtain ⟨hshows, hhf, hpf, hnf, hcf⟩ :=
    ioBlockFlags_spec { c with b := c.b - 1, h := hi w, l := lo w, pc := if again then c.pc - 2 else c.pc } v (c.b - 1) k
  exact ⟨rfl, hshows, hnf, hhf, hcf, hpf⟩

/-- The repeat test of the input forms looks at the decremented `B` (R457). -/
theorem State.repeatIo_blockIn (s : State) (d : Dir) :
    (s.blockIn d).repeatIo = (s.blockIn d).repeatIf (decide (s.cpu.b - 1 ≠ 0)) := by
  obtain ⟨-, hcpu⟩ := s.blockIn_spec d
  rw [State.repeatIo, hcpu]

/-- The repeat test of the output forms looks at the decremented `B` (R461). -/
theorem State.repeatIo_blockOut (s : State) (d : Dir) :
    (s.blockOut d).repeatIo = (s.blockOut d).repeatIf (decide (s.cpu.b - 1 ≠ 0)) := by
  obtain ⟨-, hcpu⟩ := s.blockOut_spec d
  rw [State.repeatIo, hcpu]

/-- One step of a block input, which goes back to its first byte where `again` holds (R456, R457). -/
theorem State.blockIn_repeatIf_spec (s : State) (d : Dir) (again : Bool) :
    let v := s.ioRead s.bc
    let t := (s.blockIn d).repeatIf again
    StoresByte s { t with draws := s.draws } s.hl v (if again then 21 else 16) ∧
      s.cpu.AfterBlockIo t.cpu v (v.toNat + (s.cpu.c + d.stepByte).toNat) again (s.hl + d.step) := by
  intro v t
  obtain ⟨hstate, hcpu⟩ := s.blockIn_spec d
  rw [Dir.advance_eq_add_step, Dir.advanceByte_eq_add_stepByte] at hcpu
  refine ⟨StoresByte.intro ?_, State.repeatIf_afterBlockIo again hcpu⟩
  have hframe : t = _ := (s.blockIn d).repeatIf_frame again
  rw [hframe, hstate, ← s.busWrite_draws s.hl v]

/-- One step of a block output, which goes back to its first byte where `again` holds (R460, R461). -/
theorem State.blockOut_repeatIf_spec (s : State) (d : Dir) (again : Bool) :
    let v := s.busRead s.hl
    let t := (s.blockOut d).repeatIf again
    t = { s with cpu := t.cpu, bus := { s.bus with intVector := v }, cycles := if again then 21 else 16 } ∧
      (∀ a : Word, t.busRead a = s.busRead a) ∧
      s.cpu.AfterBlockIo t.cpu v (v.toNat + (lo (s.hl + d.step)).toNat) again (s.hl + d.step) := by
  intro v t
  obtain ⟨hstate, hcpu⟩ := s.blockOut_spec d
  rw [Dir.advance_eq_add_step] at hcpu
  have hframe : t = { s with cpu := t.cpu, bus := { s.bus with intVector := v }, cycles := if again then 21 else 16 } :=
    calc t = _ := (s.blockOut d).repeatIf_frame again
      _ = _ := congrArg (fun u : State => { u with cpu := t.cpu, cycles := if again then 21 else 16 }) hstate
  refine ⟨hframe, fun a => State.busRead_congr s t a ?_ ?_ ?_, State.repeatIf_afterBlockIo again hcpu⟩ <;> rw [hframe]

/-- Settles O48: the single forms are the iteration that never goes back, the repeating ones the iteration that goes back
while the decremented `B` is not 0. -/
theorem blockInputsAndOutputs : Obligations.BlockInputsAndOutputs := by
  intro s bn counted
  refine ⟨fun x hx => ?_, fun x hx => ?_⟩ <;> simp only [List.mem_cons, List.not_mem_nil, or_false] at hx
  · rcases hx with rfl | rfl | rfl | rfl
    · exact ⟨_, rfl, s.blockIn_repeatIf_spec .up false⟩
    · exact ⟨_, rfl, s.blockIn_repeatIf_spec .down false⟩
    · exact ⟨_, congrArg Host.Outcome.next (s.repeatIo_blockIn .up), s.blockIn_repeatIf_spec .up _⟩
    · exact ⟨_, congrArg Host.Outcome.next (s.repeatIo_blockIn .down), s.blockIn_repeatIf_spec .down _⟩
  · rcases hx with rfl | rfl | rfl | rfl
    · exact ⟨_, rfl, s.blockOut_repeatIf_spec .up false⟩
    · exact ⟨_, rfl, s.blockOut_repeatIf_spec .down false⟩
    · exact ⟨_, congrArg Host.Outcome.next (s.repeatIo_blockOut .up), s.blockOut_repeatIf_spec .up _⟩
    · exact ⟨_, congrArg Host.Outcome.next (s.repeatIo_blockOut .down), s.blockOut_repeatIf_spec .down _⟩

end Sys2Proof.Machine

end

section
/-! PROOFS. The interrupt entry (O51), the return from it (O52), and the frame accounting (O53). -/

namespace Sys2Proof.Machine

/-! ### The entry (R510 to R514) -/

/-- The memory after an accepted interrupt has pushed `PC` (R510). -/
def State.pcPushed (s : State) : State :=
  (s.busWrite (s.cpu.sp - 1) (hi s.cpu.pc)).busWrite (s.cpu.sp - 2) (lo s.cpu.pc)

/-- The state in which an accepted interrupt finds its target: awake, disabled, `R` advanced, `PC` pushed (R510). -/
theorem State.push16_ackInterrupt (s : State) :
    s.ackInterrupt.push16 s.cpu.pc =
      { s.pcPushed with
        cpu := { s.cpu with
          halted := false, iff1 := false, iff2 := false, r := incR s.cpu.r 1, sp := s.cpu.sp - 2 } } := by
  simp only [State.push16, State.ackInterrupt, State.setSp, State.pcPushed, State.busWrite_withCpu]

/-- An accepted interrupt, with its target and cost as the interrupt mode gives them (R510). -/
theorem State.raiseInterrupt_of_accepted (s : State) (vector : Byte)
    (h : ¬(s.cpu.iff1 = false ∨ s.cpu.eiDelay = true)) :
    s.raiseInterrupt vector =
      (((s.ackInterrupt.push16 s.cpu.pc).setPc
          ((s.ackInterrupt.push16 s.cpu.pc).intTarget Config.intModePolicy vector).1),
        ((s.ackInterrupt.push16 s.cpu.pc).intTarget Config.intModePolicy vector).2) := if_neg h

/-- Interrupt mode 0 takes the `RST` number in bits 5..3 of the vector (R511). -/
theorem rst_of_vector (vector : Byte) :
    (vector &&& 0x38).setWidth 16 = BitVec.ofNat 16 (vector.toNat / 8 % 8 * 8) := by
  revert vector
  decide

/-- Settles O51: a refused interrupt by `State.raiseInterrupt_refused`; an accepted one pushes `PC`, then finds the
target of its mode in the state after the push. -/
theorem interruptEntry : Obligations.InterruptEntry := by
  intro s vector
  split
  case isTrue h => exact s.raiseInterrupt_refused vector h
  case isFalse h =>
    rw [s.raiseInterrupt_of_accepted vector h, s.push16_ackInterrupt, ← rst_of_vector]
    dsimp only [State.intTarget, Config.intModePolicy]
    cases s.cpu.im with
    | im0 => rfl
    | im1 => rfl
    | im2 => rfl

/-! ### The return (R434, R515) -/

/-- Two addresses of RAM one apart are two bytes of RAM. -/
theorem mirror_ne_of_ram {a b : Word} {j k : Nat} (ha : readTarget a = .ram j) (hb : readTarget b = .ram k)
    (hab : b = a + 1) : mirror b ≠ mirror a := by
  have hja := (readTarget_ram a j).1 ha
  have hkb := (readTarget_ram b k).1 hb
  have hsum : b.toNat = (a.toNat + 1) % 65536 := by rw [hab]; exact BitVec.toNat_add a 1
  unfold mirror at hja hkb ⊢
  omega

/-- What an accepted interrupt pushed in RAM reads back, low byte first (R13, R510). -/
theorem State.pcPushed_read (s : State) (h : ∀ k ∈ [(1 : Word), 2], ∃ j, readTarget (s.cpu.sp - k) = .ram j) :
    s.pcPushed.busRead (s.cpu.sp - 1) ++ s.pcPushed.busRead (s.cpu.sp - 2) = s.cpu.pc := by
  obtain ⟨j1, hj1⟩ := h 1 (by decide)
  obtain ⟨j2, hj2⟩ := h 2 (by decide)
  have hram1 := (readTarget_ram _ _).1 hj1
  have hram2 := (readTarget_ram _ _).1 hj2
  have hne := mirror_ne_of_ram hj2 hj1 (by ring)
  have hhigh : s.pcPushed.busRead (s.cpu.sp - 1) = hi s.cpu.pc := by
    rw [State.pcPushed, State.busRead_busWrite_other _ _ _ _ hne, State.busRead_busWrite, if_pos (by omega)]
  have hlow : s.pcPushed.busRead (s.cpu.sp - 2) = lo s.cpu.pc := by
    rw [State.pcPushed, State.busRead_busWrite, if_pos (by omega)]
  rw [hhigh, hlow]
  exact joinBytes_hi_lo s.cpu.pc

/-- Settles O52: `RETI` pops the two bytes that the entry pushed, and copies the cleared `IFF2`. -/
theorem returnFromInterruptResumes : Obligations.ReturnFromInterruptResumes := by
  intro s vector hiff hdelay hram
  refine ⟨_, rfl, ?_⟩
  obtain ⟨-, hcpu⟩ := (s.raiseInterrupt vector).1.returnFromInterrupt_spec 14
  rw [hcpu, s.raiseInterrupt_accepted vector hiff hdelay]
  have hhigh : s.cpu.sp - 2 + 1 = s.cpu.sp - 1 := by ring
  have hback : s.cpu.sp - 2 + 2 = s.cpu.sp := by ring
  have hpc := s.pcPushed_read hram
  dsimp only
  rw [hhigh, hback]
  exact congrArg (fun pc => { s.cpu with
    halted := false, iff1 := false, iff2 := false, r := incR s.cpu.r 1, pc := pc }) hpc

/-! ### The frame accounting (R516, R520 to R523) -/

/-- The samples owed in 1/120, in numbers: two frames' worth at normal speed, one at double speed (R523, R526). -/
theorem Sched.owedUnits_eq (c : Sched) : c.owedUnits = c.sampleAcc + 44100 * (if c.speed = .x1 then 2 else 1) := by
  unfold Sched.owedUnits
  cases c.speed with
  | x1 => rfl
  | x2 => rfl

/-- The audio flush in numbers (R523). -/
theorem State.flushAudio_eq_pushSamples (s : State) (owed : Nat)
    (h : owed = s.sched.sampleAcc + 44100 * (if s.sched.speed = .x1 then 2 else 1)) :
    s.flushAudio = { s with sched := { s.sched with sampleAcc := owed % 120 } }.pushSamples (owed / 120) := by
  rw [h, ← Sched.owedUnits_eq]
  rfl

/-- Settles O53: below F by `State.account_below`, at F by `State.account_at` with the audio flush in numbers. -/
theorem frameBoundaryAfterEveryFCycles : Obligations.FrameBoundaryAfterEveryFCycles := by
  intro s fc
  split
  case isTrue h => exact s.account_below h
  case isFalse h =>
    rw [s.account_at (not_lt.1 h)]
    dsimp only [State.frameBoundary]
    rw [State.flushAudio_eq_pushSamples _ _ rfl]
    rfl

end Sys2Proof.Machine

end

section
/-! PROOFS. The picture and its mirror (O55), the background (O56), the sprites (O57). -/

namespace Sys2Proof.Machine

/-! ### The two orientations (R585) -/

theorem State.picturePixel_unflipped (s : State) (x y : Nat) (h : s.bus.flipScreen = false) :
    s.picturePixel x y = s.framePixel x y := by
  unfold State.picturePixel
  rw [h]
  rfl

theorem State.picturePixel_flipped (s : State) (x y : Nat) (h : s.bus.flipScreen = true) :
    s.picturePixel x y = s.framePixel (223 - x) (287 - y) := by
  unfold State.picturePixel
  rw [h]
  rfl

/-- The frame does not look at `flip_screen` (R570). -/
theorem State.framePixel_withFlip (s : State) (flip : Bool) (x y : Nat) :
    ({ s with bus := { s.bus with flipScreen := flip } } : State).framePixel x y = s.framePixel x y := rfl

/-- Without `flip_screen` the composed picture is the frame. -/
theorem State.compose_screenPixel_upright (s : State) (x y : Nat) (hx : x < 224) (hy : y < 288) :
    ({ s with bus := { s.bus with flipScreen := false } } : State).compose.screenPixel x y = s.framePixel x y := by
  rw [State.compose_screenPixel _ x y hx hy, State.picturePixel_unflipped _ x y rfl, s.framePixel_withFlip false]

/-- With `flip_screen` it is the frame turned by 180 degrees. -/
theorem State.compose_screenPixel_turned (s : State) (x y : Nat) (hx : x < 224) (hy : y < 288) :
    ({ s with bus := { s.bus with flipScreen := true } } : State).compose.screenPixel x y =
      s.framePixel (223 - x) (287 - y) := by
  rw [State.compose_screenPixel _ x y hx hy, State.picturePixel_flipped _ x y rfl, s.framePixel_withFlip true]

/-- Settles O55: either picture is the frame, one way or the other round. -/
theorem screenFlipMirrorsThePicture : Obligations.ScreenFlipMirrorsThePicture := by
  intro s x y hx hy
  refine ⟨?_, s.compose_screenPixel_upright x y hx hy, ?_⟩
  · obtain ⟨screen, hcompose⟩ := s.compose_rest
    rw [hcompose]
  · rw [s.compose_screenPixel_turned x y hx hy, s.compose_screenPixel_upright _ _ (by omega) (by omega)]

/-! ### What is in front (R570, R581) -/

/-- Painting a list from its end, each element over what is there, leaves the first that paints. -/
theorem foldr_getD_eq_findSome? {α β : Type} (paint : α → Option β) (ground : β) (l : List α) :
    l.foldr (fun k below => (paint k).getD below) ground = (l.findSome? paint).getD ground := by
  induction l with
  | nil => rfl
  | cons k l ih =>
    rw [List.foldr_cons, ih, List.findSome?_cons]
    cases paint k with
    | none => rfl
    | some c => rfl

/-- The frame shows the lowest sprite that has a pixel there, else the background (R570, R581). -/
theorem State.framePixel_eq_findSome? (s : State) (x y : Nat) :
    s.framePixel x y =
      ((List.range 8).findSome? (fun k => s.spritePixelAt k x y)).getD (s.backgroundPixel x y) := by
  unfold State.framePixel
  rw [List.foldl_reverse]
  exact foldr_getD_eq_findSome? _ _ _

/-- Where no sprite has a pixel, the frame shows the background. -/
theorem State.framePixel_of_no_sprite (s : State) (x y : Nat) (h : ∀ k, k < 8 → s.spritePixelAt k x y = none) :
    s.framePixel x y = s.backgroundPixel x y := by
  have hnone : (List.range 8).findSome? (fun k => s.spritePixelAt k x y) = none :=
    List.findSome?_eq_none_iff.2 fun k hk => h k (List.mem_range.1 hk)
  rw [s.framePixel_eq_findSome?, hnone]
  rfl

/-- Where sprite `k` has a pixel and no lower one has, the frame shows it. -/
theorem State.framePixel_of_lowest_sprite (s : State) (k x y : Nat) (c : Rgb) (hk : k < 8)
    (h : s.spritePixelAt k x y = some c) (hlower : ∀ j, j < k → s.spritePixelAt j x y = none) :
    s.framePixel x y = c := by
  have hlower' : (List.range k).findSome? (fun j => s.spritePixelAt j x y) = none :=
    List.findSome?_eq_none_iff.2 fun j hj => hlower j (List.mem_range.1 hj)
  have hsplit : List.range 8 = List.range k ++ (List.range (8 - k)).map (k + ·) := by
    rw [← List.range_add, Nat.add_sub_cancel' hk.le]
  have hfirst : List.range (8 - k) = 0 :: (List.range (7 - k)).map Nat.succ := by
    rw [← List.range_succ_eq_map, show 7 - k + 1 = 8 - k by omega]
  have hsome : (List.range 8).findSome? (fun j => s.spritePixelAt j x y) = some c := by
    rw [hsplit, List.findSome?_append, hlower', hfirst, List.map_cons, List.findSome?_cons, Nat.add_zero, h]
    rfl
  rw [s.framePixel_eq_findSome?, hsome]
  rfl

/-! ### Pixels and colours in numbers (R562 to R567) -/

theorem bitNat_eq (v : Byte) (k : Nat) : bitNat v k = v.toNat / 2 ^ k % 2 := Nat.toNat_testBit v.toNat k

/-- A pixel of a strip has one bit in each nibble of its byte (R562). -/
theorem stripPixel_eq {size : Nat} (rom : Rom size) (base col row : Nat) (hrow : row < 4) :
    let v := (rom.read (base + (7 - col))).toNat
    stripPixel rom base col row = v / 2 ^ (3 - row) % 2 + 2 * (v / 2 ^ (7 - row) % 2) := by
  intro v
  unfold stripPixel
  dsimp only
  rw [bitNat_eq, bitNat_eq, show 3 - row + 4 = 7 - row by omega]

/-- A pixel of a tile: strip 1 is above strip 0 (R563). -/
theorem tilePixel_eq (roms : Roms) (t px py : Nat) (hpy : py < 8) :
    let v := (roms.tile.read (16 * t + (if py < 4 then 8 else 0) + (7 - px))).toNat
    tilePixel roms t px py = v / 2 ^ (3 - py % 4) % 2 + 2 * (v / 2 ^ (7 - py % 4) % 2) := by
  unfold tilePixel
  split
  case isTrue h =>
    rw [Nat.mod_eq_of_lt h]
    exact stripPixel_eq roms.tile (16 * t + 8) px py h
  case isFalse h =>
    rw [show py % 4 = py - 4 by omega]
    exact stripPixel_eq roms.tile (16 * t) px (py - 4) (by omega)

/-- The channels of a colour byte: no sum of weights overflows its byte (R566). -/
theorem rgbOf_toNat (c : Byte) :
    let bit (k : Nat) : Nat := c.toNat / 2 ^ k % 2
    (rgbOf c).red.toNat = 0x21 * bit 0 + 0x47 * bit 1 + 0x97 * bit 2 ∧
      (rgbOf c).green.toNat = 0x21 * bit 3 + 0x47 * bit 4 + 0x97 * bit 5 ∧
      (rgbOf c).blue.toNat = 0x51 * bit 6 + 0xAE * bit 7 := by
  simp only [rgbOf, bitNat_eq, BitVec.toNat_ofNat]
  refine ⟨?_, ?_, ?_⟩
  all_goals omega

/-- The low six bits, `v[5:0]`. -/
theorem toNat_and_lowSixBits (v : Byte) : (v &&& 0x3F).toNat = v.toNat % 64 :=
  (BitVec.toNat_and v 0x3F).trans (Nat.and_two_pow_sub_one_eq_mod v.toNat 6)

/-- A colour through the palette and the colour ROM (R567). -/
theorem colour_eq (roms : Roms) (a : Byte) (idx : Nat) :
    colour roms a idx =
      rgbOf (roms.color.read ((roms.palette.read (4 * (a.toNat % 64) + idx)).toNat % 16)) := by
  unfold colour
  dsimp only
  rw [toNat_and_lowSixBits, toNat_and_lowNibble]

/-- The background inside a cell is a pixel of its tile in its palette (R570, R575). -/
theorem State.backgroundPixel_cell (s : State) (tx ty px py : Nat) (hpx : px < 8) (hpy : py < 8) :
    let o := cellOffset tx ty
    s.backgroundPixel (8 * tx + px) (8 * ty + py) =
      colour s.roms (s.bus.ram.read (o + 0x400)) (tilePixel s.roms (s.bus.ram.read o).toNat px py) := by
  unfold State.backgroundPixel
  rw [show (8 * tx + px) / 8 = tx by omega, show (8 * tx + px) % 8 = px by omega,
    show (8 * ty + py) / 8 = ty by omega, show (8 * ty + py) % 8 = py by omega]

/-- Settles O56: the pixels and colours in numbers, and the background in the frame where no sprite is. -/
theorem composeShowsTheTile : Obligations.ComposeShowsTheTile := by
  intro s
  refine ⟨fun _ base col row rom _ hrow => stripPixel_eq rom base col row hrow,
    fun t px py _ _ hpy => tilePixel_eq s.roms t px py hpy, rgbOf_toNat, fun a idx _ => colour_eq s.roms a idx, ?_⟩
  intro tx ty px py htx hty hpx hpy hflip hsprites
  rw [s.compose_screenPixel _ _ (by omega) (by omega), s.picturePixel_unflipped _ _ hflip,
    s.framePixel_of_no_sprite _ _ hsprites]
  exact s.backgroundPixel_cell tx ty px py hpx hpy

/-! ### Sprites in numbers (R564, R580) -/

/-- The strip of a sprite image in the order of its rows (R564). -/
theorem spriteStrip_eq (px py : Nat) (hpy : py < 16) :
    spriteStrip px py =
      (if px < 8 then 4 else 0) + (if py < 4 then 1 else if py < 8 then 2 else if py < 12 then 3 else 0) := by
  unfold spriteStrip
  congr 1
  split_ifs <;> omega

/-- Each strip of a sprite image is 8 wide and 4 high, at a corner that is a multiple of that (R564). -/
theorem spriteStrip_corner (px py : Fin 16) :
    px - stripLeft (spriteStrip px py) = px.val % 8 ∧ py - stripTop (spriteStrip px py) = py.val % 4 := by
  revert px py
  decide

/-- A pixel of a sprite image, its eight strips in their places (R564). -/
theorem spritePixel_eq (roms : Roms) (n px py : Nat) (hpx : px < 16) (hpy : py < 16) :
    let strip := (if px < 8 then 4 else 0) + (if py < 4 then 1 else if py < 8 then 2 else if py < 12 then 3 else 0)
    let v := (roms.sprite.read (64 * n + 8 * strip + (7 - px % 8))).toNat
    spritePixel roms n px py = v / 2 ^ (3 - py % 4) % 2 + 2 * (v / 2 ^ (7 - py % 4) % 2) := by
  intro strip v
  obtain ⟨hleft, htop⟩ := spriteStrip_corner ⟨px, hpx⟩ ⟨py, hpy⟩
  unfold spritePixel
  dsimp only at hleft htop ⊢
  rw [hleft, htop, spriteStrip_eq px py hpy]
  exact stripPixel_eq roms.sprite (64 * n + 8 * strip) (px % 8) (py % 4) (Nat.mod_lt _ (by decide))

/-- A flip bit of a sprite in numbers (R580). -/
theorem bitOf_eq_true_iff (v : Byte) (k : Nat) : bitOf v k = true ↔ v.toNat / 2 ^ k % 2 = 1 := by
  rw [← bitNat_eq, bitNat, Bool.toNat_eq_one]

/-- The pixel of sprite `k` in numbers (R580). -/
theorem State.spritePixelAt_eq (s : State) (k x y : Nat) :
    let b := (s.bus.ram.read (0xFF0 + 2 * k)).toNat
    let dx : Int := x - (239 - ((s.bus.spritePos.read (2 * k)).toNat : Int))
    let dy : Int := y - (272 - ((s.bus.spritePos.read (2 * k + 1)).toNat : Int))
    let sx := if b / 2 % 2 = 1 then (15 - dx).toNat else dx.toNat
    let sy := if b % 2 = 1 then (15 - dy).toNat else dy.toNat
    let idx := spritePixel s.roms (b / 4) sx sy
    s.spritePixelAt k x y =
      if 0 ≤ dx ∧ dx < 16 ∧ 0 ≤ dy ∧ dy < 16 ∧ idx ≠ 0 then some (colour s.roms (s.bus.ram.read (0xFF1 + 2 * k)) idx)
      else none := by
  intro b dx dy sx sy idx
  have hflipX : bitOf (s.bus.ram.read (0xFF0 + 2 * k)) 1 = true ↔ b / 2 % 2 = 1 := bitOf_eq_true_iff _ 1
  have hflipY : bitOf (s.bus.ram.read (0xFF0 + 2 * k)) 0 = true ↔ b % 2 = 1 := by
    rw [bitOf_eq_true_iff, pow_zero, Nat.div_one]
  have hdx : (x : Int) - (s.spriteFields k).left = dx := rfl
  have hdy : (y : Int) - (s.spriteFields k).top = dy := rfl
  unfold State.spritePixelAt
  dsimp only
  rw [hdx, hdy]
  by_cases hin : 0 ≤ dx ∧ dx ≤ 15 ∧ 0 ≤ dy ∧ dy ≤ 15
  · have hsx : (if (s.spriteFields k).flipX = true then 15 - dx.toNat else dx.toNat) = sx :=
      if_congr hflipX (by omega) rfl
    have hsy : (if (s.spriteFields k).flipY = true then 15 - dy.toNat else dy.toNat) = sy :=
      if_congr hflipY (by omega) rfl
    have hidx : spritePixel s.roms (s.spriteFields k).image sx sy = idx := rfl
    have htransparent : Config.transparentIndex = 0 := rfl
    rw [if_pos hin, hsx, hsy, hidx, htransparent]
    by_cases hclear : idx = 0
    · rw [if_pos hclear, if_neg fun h => h.2.2.2.2 hclear]
    · rw [if_neg hclear, if_pos (by omega)]
      rfl
  · rw [if_neg hin, if_neg (by omega)]

/-- Settles O57: the sprite in numbers, and the lowest sprite in the frame. -/
theorem lowerSpritesAreInFront : Obligations.LowerSpritesAreInFront := by
  intro s
  refine ⟨fun n px py _ hpx hpy => spritePixel_eq s.roms n px py hpx hpy,
    fun k x y _ _ _ => s.spritePixelAt_eq k x y, ?_⟩
  intro k x y c hk hx hy hflip hpixel hlower
  rw [s.compose_screenPixel x y hx hy, s.picturePixel_unflipped x y hflip]
  exact s.framePixel_of_lowest_sprite k x y c hk hpixel hlower

end Sys2Proof.Machine

end

section
/-! PROOFS. The audio registers (O58). -/

namespace Sys2Proof.Machine

/-! ### Nibbles of a frequency (R601 to R603) -/

theorem toNat_lowNibble (v : Byte) : (lowNibble v).toNat = v.toNat % 16 := by
  rw [lowNibble, BitVec.extractLsb'_toNat, Nat.shiftRight_zero]

/-- The bits of the mask that `setNibble` moves to its nibble. -/
theorem getLsbD_nibbleMask (i : Nat) : (0xF : BitVec 20).getLsbD i = decide (i < 4) := by
  have hbit : Nat.testBit 15 i = decide (i < 4) := Nat.testBit_two_pow_sub_one 4 i
  calc (0xF : BitVec 20).getLsbD i = (decide (i < 20) && Nat.testBit 15 i) := BitVec.getLsbD_ofNat 20 15 i
    _ = decide (i < 20 ∧ i < 4) := by rw [hbit, Bool.decide_and]
    _ = decide (i < 4) := decide_eq_decide.2 (by omega)

/-- Bit `i` of a frequency whose nibble `k` was replaced. -/
theorem getLsbD_setNibble (f : BitVec 20) (k i : Nat) (d : BitVec 4) (hi : i < 20) :
    (setNibble f k d).getLsbD i = if 4 * k ≤ i ∧ i < 4 * k + 4 then d.getLsbD (i - 4 * k) else f.getLsbD i := by
  have hvalue : i - 4 * k < 20 := by omega
  simp only [setNibble, BitVec.getLsbD_or, BitVec.getLsbD_and, BitVec.getLsbD_not, BitVec.getLsbD_shiftLeft,
    BitVec.getLsbD_setWidth, getLsbD_nibbleMask, hi, hvalue, decide_true, Bool.true_and]
  by_cases hlow : i < 4 * k
  · rw [if_neg (by omega)]
    simp [hlow]
  · by_cases hhigh : i < 4 * k + 4
    · rw [if_pos (by omega)]
      simp [hlow, show i - 4 * k < 4 by omega]
    · rw [if_neg (by omega), BitVec.getLsbD_of_ge d _ (by omega)]
      simp [hlow, show ¬i - 4 * k < 4 by omega]

/-- Nibble `j` of a frequency, worth `16 ^ j` (R603), as bits. -/
theorem nibble_eq_extractLsb' (f : BitVec 20) (j : Nat) : f.toNat / 16 ^ j % 16 = (f.extractLsb' (4 * j) 4).toNat := by
  rw [BitVec.extractLsb'_toNat, Nat.shiftRight_eq_div_pow, Nat.pow_mul]

/-- Nibble `j` of a frequency whose nibble `k` was replaced (R602). -/
theorem setNibble_nibble (f : BitVec 20) (k j : Nat) (d : BitVec 4) (hj : j < 5) :
    (setNibble f k d).toNat / 16 ^ j % 16 = if j = k then d.toNat else f.toNat / 16 ^ j % 16 := by
  rw [nibble_eq_extractLsb', nibble_eq_extractLsb', ← apply_ite BitVec.toNat]
  congr 1
  refine BitVec.eq_of_getLsbD_eq fun i hi => ?_
  rw [BitVec.getLsbD_extractLsb', getLsbD_setNibble f k _ d (by omega)]
  by_cases hjk : j = k
  · rw [if_pos (by omega), if_pos hjk, hjk, Nat.add_sub_cancel_left]
    simp [hi]
  · rw [if_neg (by omega), if_neg hjk, BitVec.getLsbD_extractLsb']

/-! ### The registers of one channel (R601, R602) -/

/-- A channel after an audio write at `off`, where its wave register stands at `wave`, nibble `k` of its frequency at
`first + k` from address `low` on, and its volume at `first + 5` (R602). -/
def Channel.writeAt (c : Channel) (wave first low off : Nat) (d : BitVec 4) : Channel :=
  if off = wave then c.setWave d
  else if low ≤ off ∧ off < first + 5 then c.setFreq (off - first) d
  else if off = first + 5 then c.setVol d
  else c

/-- An audio write reaches each channel at its own addresses, and nothing else (R602). -/
theorem Audio.write_eq (au : Audio) (off : Nat) (v : Byte) (hoff : off < 32) :
    au.write off v =
      { au with
        ch0 := au.ch0.writeAt 0x05 0x10 0x10 off (lowNibble v)
        ch1 := au.ch1.writeAt 0x0A 0x15 0x16 off (lowNibble v)
        ch2 := au.ch2.writeAt 0x0F 0x1A 0x1B off (lowNibble v) } := by
  interval_cases off
  all_goals rfl

section

variable (c : Channel) (wave first low off : Nat) (d : BitVec 4)

/-- A write keeps the phase. -/
theorem Channel.writeAt_frame :
    let t := c.writeAt wave first low off d
    t = { c with freq := t.freq, wave := t.wave, vol := t.vol } := by
  unfold Channel.writeAt
  split_ifs
  all_goals rfl

/-- The wave register takes the low three bits of the nibble written at its address. -/
theorem Channel.writeAt_wave :
    (c.writeAt wave first low off d).wave.toNat = if off = wave then d.toNat % 8 else c.wave.toNat := by
  unfold Channel.writeAt
  split_ifs with hwave
  · rw [Channel.setWave, BitVec.extractLsb'_toNat, Nat.shiftRight_zero]
  all_goals rfl

/-- The volume takes the nibble written at its address. -/
theorem Channel.writeAt_vol (hwave : wave < low) (hlow : low < first + 5) :
    (c.writeAt wave first low off d).vol.toNat = if off = first + 5 then d.toNat else c.vol.toNat := by
  unfold Channel.writeAt
  by_cases hvol : off = first + 5
  · rw [if_neg (by omega), if_neg (by omega), if_pos hvol, if_pos hvol]
    rfl
  · rw [if_neg hvol, if_neg hvol]
    split_ifs
    all_goals rfl

/-- Nibble `k` of the frequency takes the nibble written at its address, where the channel has it. -/
theorem Channel.writeAt_freq (k : Nat) (hk : k < 5) (hwave : wave < low) (hlow : first ≤ low) :
    (c.writeAt wave first low off d).freq.toNat / 16 ^ k % 16 =
      if off = first + k ∧ low ≤ off then d.toNat else c.freq.toNat / 16 ^ k % 16 := by
  unfold Channel.writeAt
  by_cases hfreq : low ≤ off ∧ off < first + 5
  · rw [if_neg (by omega), if_pos hfreq, Channel.setFreq, setNibble_nibble c.freq _ k d hk]
    exact if_congr (by omega) rfl rfl
  · rw [if_neg (show ¬(off = first + k ∧ low ≤ off) by omega), if_neg hfreq]
    split_ifs
    all_goals rfl

end

/-- Settles O58: each channel by its write in `Audio.write_eq`. -/
theorem audioRegistersTakeNibbles : Obligations.AudioRegistersTakeNibbles := by
  intro au off v hoff d freq t
  have hd : (lowNibble v).toNat = d := toNat_lowNibble v
  have ht : t = _ := au.write_eq off v hoff
  rw [ht, ← hd]
  dsimp only [freq]
  refine ⟨?_, au.ch0.writeAt_wave .., au.ch1.writeAt_wave .., au.ch2.writeAt_wave ..,
    au.ch0.writeAt_vol _ 0x10 _ _ _ (by decide) (by decide), au.ch1.writeAt_vol _ 0x15 _ _ _ (by decide) (by decide),
    au.ch2.writeAt_vol _ 0x1A _ _ _ (by decide) (by decide), fun k hk => ?_, fun k hk => ?_, fun k hk => ?_⟩
  · rw [← Channel.writeAt_frame, ← Channel.writeAt_frame, ← Channel.writeAt_frame]
  · rw [au.ch0.writeAt_freq _ _ _ _ _ k hk (by decide) (by decide)]
    exact if_congr (by omega) rfl rfl
  · rw [au.ch1.writeAt_freq _ _ _ _ _ k hk (by decide) (by decide)]
    exact if_congr (by omega) rfl rfl
  · rw [au.ch2.writeAt_freq _ _ _ _ _ k hk (by decide) (by decide)]
    exact if_congr (by omega) rfl rfl

end Sys2Proof.Machine

end

section
/-! PROOFS. One sample (O59) and any number of samples (O60). -/

namespace Sys2Proof.Machine

/-! ### What a channel adds to the mix (R605, R610) -/

/-- What a channel that has advanced adds, in numbers: a 3-bit waveform number stays in the first wave ROM. -/
theorem Channel.output_eq (c : Channel) (roms : Roms) :
    c.output roms =
      if c.freq = 0 then 0
      else (((roms.wave1.read (32 * c.wave.toNat + c.acc.toNat / 32768)).toNat % 16 : Nat) - 8 : Int) * c.vol.toNat := by
  have hwave : c.wave.toNat < 8 := c.wave.isLt
  unfold Channel.output wavetable
  rw [if_pos hwave, toNat_and_lowNibble]

/-- A nibble less 8, times a nibble. -/
theorem nibble_term_bounds {n v : Nat} (hn : n < 16) (hv : v < 16) :
    -120 ≤ ((n : Int) - 8) * v ∧ ((n : Int) - 8) * v ≤ 105 := by
  constructor <;> nlinarith

/-- What a channel adds lies between `-8 * 15` and `7 * 15`. -/
theorem Channel.output_bounds (c : Channel) (roms : Roms) : -120 ≤ c.output roms ∧ c.output roms ≤ 105 := by
  rw [c.output_eq roms]
  split_ifs
  · decide
  · exact nibble_term_bounds (Nat.mod_lt _ (by decide)) c.vol.isLt

/-- Saturation changes no value of the 16-bit signed range (R610). -/
theorem saturate_of_mem {v : Int} (hlow : -32768 ≤ v) (hhigh : v ≤ 32767) : saturate v = v := by
  unfold saturate
  rw [if_neg (by omega), if_neg (by omega)]

/-- The sum of three channels times the gain, or 0 while muted or disabled: it never saturates (R610, R612). -/
theorem Audio.sample_eq (au : Audio) (roms : Roms) (soundEnable : Bool) :
    au.sample roms soundEnable =
      if au.mute = true ∨ soundEnable = false then 0
      else 50 * (au.ch0.output roms + au.ch1.output roms + au.ch2.output roms) := by
  obtain ⟨hlow0, hhigh0⟩ := au.ch0.output_bounds roms
  obtain ⟨hlow1, hhigh1⟩ := au.ch1.output_bounds roms
  obtain ⟨hlow2, hhigh2⟩ := au.ch2.output_bounds roms
  have hgain : Config.audioGain = 50 := rfl
  unfold Audio.sample
  rw [hgain, mul_comm, saturate_of_mem (by omega) (by omega)]

/-- The sample lies well inside the 16-bit signed range. -/
theorem Audio.sample_bounds (au : Audio) (roms : Roms) (soundEnable : Bool) :
    -18000 ≤ au.sample roms soundEnable ∧ au.sample roms soundEnable ≤ 15750 := by
  obtain ⟨hlow0, hhigh0⟩ := au.ch0.output_bounds roms
  obtain ⟨hlow1, hhigh1⟩ := au.ch1.output_bounds roms
  obtain ⟨hlow2, hhigh2⟩ := au.ch2.output_bounds roms
  rw [au.sample_eq roms soundEnable]
  split_ifs
  · decide
  · omega

/-! ### One sample (R610) -/

/-- One sample puts the number of its mix at the end of the stream (R548, R610). -/
theorem State.samples_pushSample (s : State) :
    s.pushSample.samples = s.samples ++ [s.audio.advance.sample s.roms s.bus.soundEnable] := by
  obtain ⟨hlow, hhigh⟩ := s.audio.advance.sample_bounds s.roms s.bus.soundEnable
  rw [s.pushSample_eq]
  unfold State.samples
  rw [List.map_append, List.map_singleton, BitVec.toInt_ofInt_eq_self (by decide) (by omega) (by omega)]

/-- A phase step keeps the registers, which the sample of the channel also reads. -/
theorem Channel.output_advance (c : Channel) (roms : Roms) :
    let advanced : Nat := if c.freq = 0 then c.acc.toNat else (c.acc.toNat + c.freq.toNat) % 1048576
    c.advance.output roms =
      if c.freq = 0 then 0
      else (((roms.wave1.read (32 * c.wave.toNat + advanced / 32768)).toNat % 16 : Nat) - 8 : Int) * c.vol.toNat := by
  intro advanced
  have hacc : c.advance.acc.toNat = advanced := c.advance_acc
  rw [Channel.output_eq, hacc, c.advance_eq]

/-- Settles O59: the phases by `Channel.advance_acc`, the sample by `Audio.sample_eq` of channels that have advanced. -/
theorem renderSampleMixesThreeChannels : Obligations.RenderSampleMixesThreeChannels := by
  intro s advanced term mix out t
  have hout : s.audio.advance.sample s.roms s.bus.soundEnable = out := by
    have hterm (c : Channel) : c.advance.output s.roms = term c := c.output_advance s.roms
    rw [Audio.sample_eq]
    dsimp only [Audio.advance]
    rw [hterm, hterm, hterm]
    rfl
  have hsamples : t.samples = s.samples ++ [out] := hout ▸ s.samples_pushSample
  obtain ⟨hlow, hhigh⟩ := s.audio.advance.sample_bounds s.roms s.bus.soundEnable
  rw [hout] at hlow hhigh
  refine ⟨?_, s.audio.ch0.advance_acc, s.audio.ch1.advance_acc, s.audio.ch2.advance_acc, hsamples, hlow, hhigh⟩
  calc t = _ := s.pushSample_eq
    _ = _ := by rw [s.audio.ch0.advance_eq, s.audio.ch1.advance_eq, s.audio.ch2.advance_eq]; rfl

/-! ### Any number of samples (R612) -/

/-- After `n` samples each channel has taken `n` phase steps, whatever else the machine holds. -/
theorem State.pushSamples_channels (s : State) (n : Nat) :
    (s.pushSamples n).audio.ch0 = Channel.advance^[n] s.audio.ch0 ∧
      (s.pushSamples n).audio.ch1 = Channel.advance^[n] s.audio.ch1 ∧
      (s.pushSamples n).audio.ch2 = Channel.advance^[n] s.audio.ch2 := by
  induction n generalizing s with
  | zero => exact ⟨rfl, rfl, rfl⟩
  | succ n ih => exact ih s.pushSample

/-- `n` samples are `n` more entries of the stream. -/
theorem State.samples_pushSamples_length (s : State) (n : Nat) :
    (s.pushSamples n).samples.length = s.samples.length + n := by
  induction n generalizing s with
  | zero => rfl
  | succ n ih =>
    rw [State.pushSamples_succ, ih, s.samples_pushSample, List.length_append, List.length_singleton, add_right_comm,
      add_assoc]

/-- While muted or disabled every sample is 0. -/
theorem State.samples_pushSamples_of_silent (s : State) (n : Nat)
    (h : s.audio.mute = true ∨ s.bus.soundEnable = false) :
    (s.pushSamples n).samples = s.samples ++ List.replicate n 0 := by
  induction n generalizing s with
  | zero => exact (List.append_nil _).symm
  | succ n ih =>
    have hzero : s.audio.advance.sample s.roms s.bus.soundEnable = 0 := if_pos h
    rw [State.pushSamples_succ, ih s.pushSample h, s.samples_pushSample, hzero, List.append_assoc, List.replicate_succ,
      List.singleton_append]

/-- Settles O60: phases and lengths do not depend on `mute` and `sound_enable`, by the lemmas above for both states. -/
theorem muteKeepsThePhases : Obligations.MuteKeepsThePhases := by
  intro s n m e t
  obtain ⟨hs0, hs1, hs2⟩ := s.pushSamples_channels n
  obtain ⟨ht0, ht1, ht2⟩ := t.pushSamples_channels n
  refine ⟨?_, ?_, t.samples_pushSamples_of_silent n⟩
  · rw [ht0, ht1, ht2, hs0, hs1, hs2]
  · rw [t.samples_pushSamples_length, s.samples_pushSamples_length]
    rfl

end Sys2Proof.Machine

end
